-- ==== Sys2Proof/Word.lean ====
section
/-! DEFINITION. The engine's data words: bytes, nibbles and byte sequences (00_scope.md R17). -/

namespace Sys2Proof

/-- A byte, an unsigned integer 0 to 255 (R17). -/
abbrev Byte := BitVec 8

/-- Half of a byte: `b[7:4]` or `b[3:0]` (R17). -/
abbrev Nibble := BitVec 4

/-- A byte sequence; element 0 is the first on the wire (R17, R67). -/
abbrev Bytes := List Byte

end Sys2Proof
end

