-- ==== Sys2Proof/Config.lean ====
section
/-! DEFINITION. What is fixed before the first operation (00_scope.md R8 to R15, 10_state.md R38), and the free values.
The opaque constants have no body: nothing can be proved of what they are, so every claim holds whatever they are. -/

namespace Sys2Proof

/-- The modem-control output that carries `BUSY_OUT` (R11); no rule depends on it. -/
inductive BusyPin where
  | dtr
  | rts
deriving DecidableEq, Repr, Inhabited

/-- The configuration, WF's "explicit session/context object constructed once" (R38). -/
structure Config where
  /-- `SB9600_TABLE` (R8): 256 bytes. -/
  table : Bytes
  /-- `READY_SET` (R10). -/
  readySet : List Bytes
  /-- `BOOT_BAUD` (R9): 2212 or 2400. -/
  bootBaud : Nat
  /-- `BUSY_PIN` (R11). -/
  busyPin : BusyPin
  /-- `READ_TIMEOUT` (R12), a duration no rule reads. -/
  readTimeout : Nat
  /-- `SPIN_INTERVAL` (R12), a duration no rule reads. -/
  spinInterval : Nat
  /-- `POLL_INTERVAL` (R12), a duration no rule reads. -/
  pollInterval : Nat
  /-- `QUIET_CHUNK` (R13), at least 1. -/
  quietChunk : Nat
  /-- `DEADLINE` (R15); `none` is the base engine. -/
  deadline : Option Nat
deriving DecidableEq, Repr

/-- The state items that can become undefined, each naming the free values drawn for it
(R21, R46, R276; notes/assumptions/13.md). -/
inductive Slot where
  | frame
  | acc
  | opcode
  | data
  | txbuf
  | rxbuf
  | blk
  | echo
  | rdy
  | resp
  | rxq
  | img
  | cursor
  | savedTimeout
deriving DecidableEq, Repr

/-- FREE: byte `i` of the undefined contents of an item, at the `n`-th drawing. -/
opaque Config.freeByte : Nat → Slot → Nat → Byte

/-- FREE: the length of the undefined contents of an item of varying length, or a free number. -/
opaque Config.freeLen : Nat → Slot → Nat

/-- FREE: what the line has delivered before the first operation (R46, 93 row 11). -/
opaque Config.resetRxq : Bytes

/-- FREE: the peer's BUSY line before the first operation (R46). -/
opaque Config.resetBusyIn : Bool

/-- OPEN: whether `BOOT_BAUD` is 2400 rather than 2212 (R9). -/
opaque Config.openBootBaudIs2400 : Bool

/-- OPEN: the members of `READY_SET` that the source does not print (R10). -/
opaque Config.openReadyPatterns : List Bytes

/-- OPEN: `BUSY_PIN` (R11). -/
opaque Config.openBusyPin : BusyPin

/-- OPEN: `READ_TIMEOUT` (R12). -/
opaque Config.openReadTimeout : Nat

/-- OPEN: `SPIN_INTERVAL` (R12). -/
opaque Config.openSpinInterval : Nat

/-- OPEN: `POLL_INTERVAL` (R12). -/
opaque Config.openPollInterval : Nat

/-- OPEN: `QUIET_CHUNK` less one (R13 asks for at least 1). -/
opaque Config.openQuietChunkLessOne : Nat

end Sys2Proof
end

