-- ==== Sys2Proof/Machine/Table.lean ====
section
/-! DEFINITION. `SB9600_TABLE` as 40_checksum.md R133 prints it, and the bit-serial loop of R134 that generates it. -/

namespace Sys2Proof.Machine

/-- The reflected generator polynomial (R134). -/
def crcPolynomial : Byte := 0xCF#8

/-- One pass of R134's inner loop: a logical right shift, and the polynomial when bit 0 was 1. -/
def crcShift (c : Byte) : Byte :=
  if c.getLsbD 0 then (c >>> 1) ^^^ crcPolynomial else c >>> 1

/-- Eight passes of R134's inner loop: the bit-serial form of one table look-up. -/
def crcShift8 (c : Byte) : Byte :=
  crcShift (crcShift (crcShift (crcShift (crcShift (crcShift (crcShift (crcShift c)))))))

/-- Entries 0x00 to 0x3F of R133. -/
def tableQuarter0 : Bytes := [
  0x00, 0x99, 0xAD, 0x34, 0xC5, 0x5C, 0x68, 0xF1, 0x15, 0x8C, 0xB8, 0x21, 0xD0, 0x49, 0x7D, 0xE4,
  0x2A, 0xB3, 0x87, 0x1E, 0xEF, 0x76, 0x42, 0xDB, 0x3F, 0xA6, 0x92, 0x0B, 0xFA, 0x63, 0x57, 0xCE,
  0x54, 0xCD, 0xF9, 0x60, 0x91, 0x08, 0x3C, 0xA5, 0x41, 0xD8, 0xEC, 0x75, 0x84, 0x1D, 0x29, 0xB0,
  0x7E, 0xE7, 0xD3, 0x4A, 0xBB, 0x22, 0x16, 0x8F, 0x6B, 0xF2, 0xC6, 0x5F, 0xAE, 0x37, 0x03, 0x9A]

/-- Entries 0x40 to 0x7F of R133. -/
def tableQuarter1 : Bytes := [
  0xA8, 0x31, 0x05, 0x9C, 0x6D, 0xF4, 0xC0, 0x59, 0xBD, 0x24, 0x10, 0x89, 0x78, 0xE1, 0xD5, 0x4C,
  0x82, 0x1B, 0x2F, 0xB6, 0x47, 0xDE, 0xEA, 0x73, 0x97, 0x0E, 0x3A, 0xA3, 0x52, 0xCB, 0xFF, 0x66,
  0xFC, 0x65, 0x51, 0xC8, 0x39, 0xA0, 0x94, 0x0D, 0xE9, 0x70, 0x44, 0xDD, 0x2C, 0xB5, 0x81, 0x18,
  0xD6, 0x4F, 0x7B, 0xE2, 0x13, 0x8A, 0xBE, 0x27, 0xC3, 0x5A, 0x6E, 0xF7, 0x06, 0x9F, 0xAB, 0x32]

/-- Entries 0x80 to 0xBF of R133. -/
def tableQuarter2 : Bytes := [
  0xCF, 0x56, 0x62, 0xFB, 0x0A, 0x93, 0xA7, 0x3E, 0xDA, 0x43, 0x77, 0xEE, 0x1F, 0x86, 0xB2, 0x2B,
  0xE5, 0x7C, 0x48, 0xD1, 0x20, 0xB9, 0x8D, 0x14, 0xF0, 0x69, 0x5D, 0xC4, 0x35, 0xAC, 0x98, 0x01,
  0x9B, 0x02, 0x36, 0xAF, 0x5E, 0xC7, 0xF3, 0x6A, 0x8E, 0x17, 0x23, 0xBA, 0x4B, 0xD2, 0xE6, 0x7F,
  0xB1, 0x28, 0x1C, 0x85, 0x74, 0xED, 0xD9, 0x40, 0xA4, 0x3D, 0x09, 0x90, 0x61, 0xF8, 0xCC, 0x55]

/-- Entries 0xC0 to 0xFF of R133. -/
def tableQuarter3 : Bytes := [
  0x67, 0xFE, 0xCA, 0x53, 0xA2, 0x3B, 0x0F, 0x96, 0x72, 0xEB, 0xDF, 0x46, 0xB7, 0x2E, 0x1A, 0x83,
  0x4D, 0xD4, 0xE0, 0x79, 0x88, 0x11, 0x25, 0xBC, 0x58, 0xC1, 0xF5, 0x6C, 0x9D, 0x04, 0x30, 0xA9,
  0x33, 0xAA, 0x9E, 0x07, 0xF6, 0x6F, 0x5B, 0xC2, 0x26, 0xBF, 0x8B, 0x12, 0xE3, 0x7A, 0x4E, 0xD7,
  0x19, 0x80, 0xB4, 0x2D, 0xDC, 0x45, 0x71, 0xE8, 0x0C, 0x95, 0xA1, 0x38, 0xC9, 0x50, 0x64, 0xFD]

/-- `SB9600_TABLE` with the spec's default contents (R8, R133; notes/assumptions/21.md). -/
def sb9600Table : Bytes := tableQuarter0 ++ tableQuarter1 ++ tableQuarter2 ++ tableQuarter3

/-- The table the loop of R134 generates. -/
def generatedTable : Bytes := (List.range 256).map fun i => crcShift8 (BitVec.ofNat 8 i)

end Sys2Proof.Machine
end

