-- ==== Sys2Proof/Machine/Codec.lean ====
section
/-! DEFINITION. The pure functions of the codecs: the two checksums (40_checksum.md), the SB9600 frame (42_sb9600.md
R181), the SBEP header, frame and parser (30_encoding.md R95 to R101, 43_sbep.md R201, R203), the padded block
(44_bootstrap.md R251). -/

namespace Sys2Proof.Machine

/-- `ACK`, the universal acknowledgement byte (R7, R106). -/
def ackByte : Byte := 0x50#8

/-- `TRIGGER`, the bootstrap trigger byte (R7, R102). -/
def triggerByte : Byte := 0xFD#8

/-- `TRIGGER_ACK`, the MCU's answer to the trigger (R7, R102). -/
def triggerAckByte : Byte := 0xFF#8

/-- `zeros(n)` (R17). -/
def zeros (n : Nat) : Bytes := List.replicate n 0x00#8

/-- The all-zero ready pattern, a known member of `READY_SET` (R10). -/
def readyZeros : Bytes := zeros 8

/-- The alternating ready pattern, a known member of `READY_SET` (R10). -/
def readyAlternating : Bytes := [0x00, 0xFF, 0x00, 0xFF, 0x00, 0xFF, 0x00, 0xFF]

/-- The known non-member of `READY_SET` (R10). -/
def readyNonMember : Bytes := [0x01, 0x02, 0x03, 0x04, 0x05, 0x06, 0x07, 0x08]

/-- `b[7:4]` (R17). -/
def highNibble (b : Byte) : Nibble := b.extractLsb' 4 4

/-- `b[3:0]` (R17). -/
def lowNibble (b : Byte) : Nibble := b.extractLsb' 0 4

/-- `(hi << 4) | lo` (R97, R139). -/
def packNibbles (hi lo : Nibble) : Byte := hi ++ lo

/-- One step of R131: the table entry at `ACC ^ byte`. -/
def crcStep (table : Bytes) (acc b : Byte) : Byte := table.getD (acc ^^^ b).toNat 0x00#8

/-- `sb9600_crc` (R131): the steps folded left to right from the seed 0. -/
def sb9600Crc (table : Bytes) (s : Bytes) : Byte := s.foldl (crcStep table) 0x00#8

/-- The 8-bit wrapping sum that `sbep_checksum` accumulates in `ACC` (R137). -/
def byteSum (s : Bytes) : Byte := s.foldl (fun acc b => acc + b) 0x00#8

/-- `sbep_checksum` (R137): the complement of the sum. -/
def sbepChecksum (s : Bytes) : Byte := byteSum s ^^^ 0xFF#8

/-- The five bytes of `sb9600_frame(a, s, v, o)` (R181). -/
def sb9600Frame (table : Bytes) (a s v o : Byte) : Bytes := [a, s, v, o, sb9600Crc table [a, s, v, o]]

/-- The validity bit of `SB9600_CHECK` (R186). -/
def sb9600Valid (table : Bytes) (f0 f1 f2 f3 f4 : Byte) : Bool := sb9600Crc table [f0, f1, f2, f3] == f4

/-- `sbep_header(opcode, data_len)` (R97): forms A to D of R98. -/
def sbepHeader (opcode : Byte) (dataLen : Nat) : Bytes :=
  let hi : Nibble := if opcode.toNat < 0xF then opcode.setWidth 4 else 0xF#4
  let lo : Nibble := if dataLen < 0xF then BitVec.ofNat 4 dataLen else 0xF#4
  let h := packNibbles hi lo
  if opcode.toNat < 0xF then
    if dataLen < 0xF then [h] else [h, 0x00#8, BitVec.ofNat 8 dataLen]
  else
    if dataLen < 0xF then [h, opcode] else [h, opcode, BitVec.ofNat 8 dataLen]

/-- `sbep_frame(opcode, data)` (R100, R201). -/
def sbepFrame (opcode : Byte) (data : Bytes) : Bytes :=
  let m := sbepHeader opcode (data.length + 1) ++ data
  m ++ [sbepChecksum m]

/-- Whether the header byte announces an extended opcode (R95). -/
def opcodeExtended (h : Byte) : Bool := highNibble h == 0xF#4

/-- Whether the header byte announces an extended length (R95). -/
def lengthExtended (h : Byte) : Bool := lowNibble h == 0xF#4

/-- The opcode of the header bytes read so far (R99, R203). -/
def headerOpcode (b : Bytes) : Byte :=
  if opcodeExtended (b.getD 0 0) then b.getD 1 0 else (highNibble (b.getD 0 0)).setWidth 8

/-- The `datalen` of the header bytes read so far (R99, R203). -/
def headerDataLen (b : Bytes) : Nat :=
  if lengthExtended (b.getD 0 0) then (b.getD 2 0).toNat else (lowNibble (b.getD 0 0)).toNat

/-- How many header bytes the first byte announces (R99). -/
def headerLen (h : Byte) : Nat :=
  if lengthExtended h then 3 else if opcodeExtended h then 2 else 1

/-- The three verdicts of `sbep_parse` over a finite sequence (R203). -/
inductive Parsed where
  /-- A frame was read; `rest` is what follows it. -/
  | frame (opcode : Byte) (data rest : Bytes)
  /-- `datalen = 0` or the sum test fails; `rest` is what was not consumed. -/
  | bad (rest : Bytes)
  /-- The sequence ends inside the frame. -/
  | short
deriving DecidableEq, Repr

/-- The verdict on a whole frame: its header bytes and its payload of `datalen` bytes (R203, R211). -/
def frameVerdict (header payload : Bytes) : Option (Byte × Bytes) :=
  if headerDataLen header = 0 then none
  else if sbepChecksum (header ++ payload) ≠ 0x00#8 then none
  else some (headerOpcode header, payload.take (headerDataLen header - 1))

/-- `sbep_parse` as a pure decoder of a finite sequence (R203). -/
def sbepParse (s : Bytes) : Parsed :=
  match s with
  | [] => .short
  | h :: _ =>
    let header := s.take (headerLen h)
    let body := s.drop (headerLen h)
    if header.length < headerLen h then .short
    else if body.length < headerDataLen header then .short
    else
      match frameVerdict header (body.take (headerDataLen header)) with
      | some (opcode, data) => .frame opcode data (body.drop (headerDataLen header))
      | none => .bad (body.drop (headerDataLen header))

/-- The block at an image offset, padded with zeros to 8 bytes (R62, R251). -/
def blockAt (image : Bytes) (offset : Nat) : Bytes :=
  let p := (image.drop offset).take 8
  p ++ zeros (8 - p.length)

end Sys2Proof.Machine
end

