-- ==== Sys2Proof/Machine/Defaults.lean ====
section
/-! DEFINITION. The configuration of the machine right after reset (00_scope.md R8 to R15; notes/assumptions/8.md). -/

namespace Sys2Proof.Machine

/-- What a `READY_SET` may additionally hold: 8-byte sequences other than the known non-member (R10). -/
def readyPatternLegal (p : Bytes) : Bool := (p.length == 8) && (p != readyNonMember)

/-- `READY_SET` at reset: the two known members, and whichever others the implementation has (R10). -/
def initialReadySet : List Bytes :=
  readyZeros :: readyAlternating :: Config.openReadyPatterns.filter readyPatternLegal

/-- The configuration at reset: the spec's defaults (R8, R15), and every open parameter left open. -/
def initialConfig : Config :=
  { table := sb9600Table
    readySet := initialReadySet
    bootBaud := if Config.openBootBaudIs2400 then 2400 else 2212
    busyPin := Config.openBusyPin
    readTimeout := Config.openReadTimeout
    spinInterval := Config.openSpinInterval
    pollInterval := Config.openPollInterval
    quietChunk := Config.openQuietChunkLessOne + 1
    deadline := none }

end Sys2Proof.Machine
end

