-- ==== Sys2Proof/Machine/Memory.lean ====
section
/-! DEFINITION. The image memory `IMG` (10_state.md R40, 20_memory.md R61, R62): cells at strictly rising offsets, none
equal to what an unlisted offset reads as (notes/assumptions/12.md). -/

namespace Sys2Proof.Machine

/-- The contents of `IMG`, sparse, in canonical form. -/
abbrev Memory := List Host.Cell

/-- What an unlisted offset reads as (notes/assumptions/12.md). -/
def unlistedByte : Byte := 0x00#8

/-- The byte at an offset. -/
def memByte : Memory → Nat → Byte
  | [], _ => unlistedByte
  | (k, b) :: m, a => if k = a then b else memByte m a

/-- The contents that hold the given bytes from an offset on, and nothing else. -/
def memOfBytes : Nat → Bytes → Memory
  | _, [] => []
  | a, b :: bs => if b = unlistedByte then memOfBytes (a + 1) bs else (a, b) :: memOfBytes (a + 1) bs

/-- `MemRead(IMG, a, n)` on an image of length `len` (R62): clipped, never faulting. -/
def memRead (m : Memory) (len a n : Nat) : Bytes :=
  (List.range (min (a + n) len - a)).map fun i => memByte m (a + i)

/-- The cells stand at offsets from `lo` on, strictly rising, and none holds the unlisted byte. -/
def memCanonicalFrom : Nat → Memory → Bool
  | _, [] => true
  | lo, (k, b) :: m => decide (lo ≤ k) && (b != unlistedByte) && memCanonicalFrom (k + 1) m

/-- The canonical form. -/
def Memory.wf (m : Memory) : Bool := memCanonicalFrom 0 m

end Sys2Proof.Machine
end

