-- ==== Sys2Proof/Machine/State.lean ====
section
/-! DEFINITION. The architectural state (10_state.md), the turns of the three agents (10_state.md R20, 20_memory.md
R65), the reasons a step can stop, and the machine right after reset (R46). INVENTORY.md lists every field with its
rule. -/

namespace Sys2Proof.Machine

/-- `PHASE` (R28): where the sequencer is. -/
inductive Phase where
  | idle
  | tRead
  | tQuiet
  | sbWaitFree
  | sbXmit
  | sbReadback
  | sbWaitRelease
  | epEnterAck
  | epLeaveWait
  | epXmit
  | epReadback
  | epAck
  | epRxHdr
  | epRxExtop
  | epRxPlaceholder
  | epRxExtlen
  | epRxPayload
  | btPreflight
  | btReadyWait
  | btNegotiate
  | btBlockSend
  | btBlockEcho
  | btFinalWait
deriving DecidableEq, Repr

/-- `STATUS` (R34, R271), with `Cancelled` (R284). -/
inductive Status where
  | ok
  | checksumFailure
  | transmitMismatch
  | notAcknowledged
  | echoMismatch
  | bootloaderFileError
  | bootstrapFailed
  | cancelled
deriving DecidableEq, Repr

/-- The events of the trace (R70). -/
inductive Event where
  /-- `Baud(r)` -/
  | baud (r : Nat)
  /-- `Busy(v)` -/
  | busy (v : Bool)
  /-- `Tx(s)` -/
  | tx (s : Bytes)
  /-- `Rx(s)` -/
  | rx (s : Bytes)
  /-- `Drop(s)` -/
  | drop (s : Bytes)
  /-- `Log(s)` -/
  | log (s : Bytes)
  /-- `End(k)` -/
  | ended (k : Status)
deriving DecidableEq, Repr

/-- The steps of the environment (R65). -/
inductive EnvStep where
  /-- `EnvRx(b)` -/
  | rx (b : Byte)
  /-- `EnvBusy(v)` -/
  | busy (v : Bool)
  /-- `EnvTimeout` -/
  | timeout
deriving DecidableEq, Repr

/-- One turn of one agent; a list of them is an interleaving (R20, R65; notes/assumptions/2.md). -/
inductive Turn where
  /-- The engine takes the edge of R47 that is enabled, or polls in vain. -/
  | engine
  /-- The environment takes a step. -/
  | env (e : EnvStep)
  /-- The line delivers these bytes one by one, the engine sampling after each (notes/assumptions/27.md). -/
  | line (bytes : Bytes)
  /-- An external deadline expires (R284). -/
  | deadline
  /-- The host presents a command (R91). -/
  | host (bytes : Bytes)
  /-- The host loads an image (R40). -/
  | load (image : Bytes)
  /-- The host takes the image away: the file is missing (R40). -/
  | unload
  /-- A reset is applied (R311). -/
  | reset
deriving DecidableEq, Repr

/-- `FRAME[0..4]` with WF's field names (R22). -/
@[ext]
structure FrameReg where
  address : Byte
  subaddress : Byte
  value : Byte
  operation : Byte
  crc : Byte
deriving DecidableEq, Repr

/-- The operand and working registers (R22 to R26), and the latch of `READ`'s count (notes/assumptions/24.md). -/
@[ext]
structure Working where
  frame : FrameReg
  acc : Byte
  opcode : Byte
  data : Bytes
  dlen : BitVec 8
  txbuf : Bytes
  txlen : BitVec 9
  rxbuf : Bytes
  rxlen : BitVec 9
  blk : Bytes
  echo : Bytes
  rdy : Bytes
  resp : Bytes
  readCount : Nat
deriving DecidableEq, Repr

/-- The bootstrap session (R43), from the start of `BOOT` to its end. Its cursor is the register `CURSOR`. -/
@[ext]
structure Session where
  /-- `boot_image`, once preflight has latched it (R232) -/
  bootImage : Option Bytes
  /-- `baud`, the configured `BOOT_BAUD` (C5) -/
  baud : Nat
  /-- `READY_SET` as latched (R75, R232) -/
  readySet : List Bytes
deriving DecidableEq, Repr

/-- What the last operation returned to the host (R20, R27, R92). `SBEP_RECEIVE` returns in `OPCODE`, `DATA`, `DLEN`. -/
inductive Result where
  | none
  | byte (b : Byte)
  | bytes (s : Bytes)
  | count (n : Nat)
  | bit (v : Bool)
  | checked (valid : Bool) (address subaddress value operation : Byte)
deriving DecidableEq, Repr

/-- The machine: the engine's state (R21 to R43), the environment's that it samples, and the turns to come. -/
@[ext]
structure State where
  /-- `PHASE` (R28) -/
  phase : Phase
  /-- `STATUS` (R34) -/
  status : Status
  /-- `BUSY_OUT` (R31) -/
  busyOut : Bool
  /-- `BUSY_IN` (R32), the environment's -/
  busyIn : Bool
  /-- `SBEP_MODE` (R33) -/
  sbepMode : Bool
  /-- `BAUD` (R36) -/
  baud : Nat
  /-- `TIMEOUT` (R37) -/
  timeout : Nat
  /-- `SAVED_TIMEOUT` (R37) -/
  savedTimeout : Nat
  /-- `RXQ` (R42), oldest byte first -/
  rxq : Bytes
  /-- The transmit side of the wire (R60, R63), oldest byte first -/
  wire : Bytes
  /-- `IMG` (R40) -/
  img : Memory
  /-- `IMG_LEN` (R40) -/
  imgLen : BitVec 32
  /-- `IMG_VALID` (R40) -/
  imgValid : Bool
  /-- `CURSOR` (R29) -/
  cursor : BitVec 13
  /-- The operand and working registers (R22 to R26) -/
  w : Working
  /-- The bootstrap session, while there is one (R43) -/
  session : Option Session
  /-- The results of the last operation (R27) -/
  result : Result
  /-- The trace (R70), oldest event first -/
  trace : List Event
  /-- The configuration (R38) -/
  cfg : Config
  /-- The turns to come; the model's own (notes/assumptions/2.md) -/
  sched : List Turn
  /-- How many free values have been drawn; the model's own (notes/assumptions/13.md) -/
  free : Nat
deriving DecidableEq, Repr

/-- Why a step stops the machine. -/
inductive Fault where
  /-- Raised by `step` when the host loads or takes away the image while an operation runs: a fault on the host's side
  (93 row 20, R331). Safe: the model stops where a real host would go on with an engine that cannot see the change. -/
  | imageChangedDuringOperation
deriving DecidableEq, Repr

/-- Why an instruction is not run. -/
inductive Refusal where
  /-- Raised by `exec`'s arm of an instruction that has no meaning yet; none has this arm now. Safe: nothing runs. -/
  | notModelled (mnemonic : String)
deriving DecidableEq, Repr

/-- The working registers right after reset: R46 leaves them unspecified, and the model names zeros
(notes/assumptions/10.md). -/
def Working.reset : Working :=
  { frame := { address := 0x00#8, subaddress := 0x00#8, value := 0x00#8, operation := 0x00#8, crc := 0x00#8 }
    acc := 0x00#8
    opcode := 0x00#8
    data := []
    dlen := 0#8
    txbuf := []
    txlen := 0#9
    rxbuf := []
    rxlen := 0#9
    blk := zeros 8
    echo := zeros 16
    rdy := zeros 8
    resp := []
    readCount := 0 }

/-- The machine right after reset (R46). -/
def State.reset : State :=
  { phase := .idle
    status := .ok
    busyOut := false
    busyIn := Config.resetBusyIn
    sbepMode := false
    baud := 9600
    timeout := initialConfig.readTimeout
    savedTimeout := 0
    rxq := Config.resetRxq
    wire := []
    img := []
    imgLen := 0#32
    imgValid := false
    cursor := 0x80#13
    w := Working.reset
    session := none
    result := .none
    trace := []
    cfg := initialConfig
    sched := []
    free := 0 }

end Sys2Proof.Machine
end

