-- ==== Sys2Proof/Machine/Flags.lean ====
section
/-! DEFINITION. What is read off the status and flag registers: the codes of `STATUS`, the sample of `BUSY_IN`, the bus
states, the link modes, and which phases are holds. The engine has no arithmetic flags (10_state.md R35). -/

namespace Sys2Proof.Machine

/-- The numeric code of a status (60_exceptions.md R271, R284). -/
def statusCode : Status → Nat
  | .ok => 0
  | .checksumFailure => 1
  | .transmitMismatch => 2
  | .notAcknowledged => 3
  | .echoMismatch => 4
  | .bootloaderFileError => 5
  | .bootstrapFailed => 6
  | .cancelled => 7

/-- `IS_BUSY()` (41_transport.md R163): a sample of the peer's line. -/
def isBusy (s : State) : Bool := s.busyIn

/-- The four states of the bus (41_transport.md R166). -/
inductive BusState where
  | free
  | host
  | peer
  | both
deriving DecidableEq, Repr

/-- The bus state read off the two lines (R166). -/
def busState (s : State) : BusState :=
  match s.busyOut, s.busyIn with
  | false, false => .free
  | true, false => .host
  | false, true => .peer
  | true, true => .both

/-- Whether a phase belongs to `BOOT` (10_state.md R28). -/
def inBoot : Phase → Bool
  | .btPreflight | .btReadyWait | .btNegotiate | .btBlockSend | .btBlockEcho | .btFinalWait => true
  | .idle | .tRead | .tQuiet | .sbWaitFree | .sbXmit | .sbReadback | .sbWaitRelease | .epEnterAck | .epLeaveWait
  | .epXmit | .epReadback | .epAck | .epRxHdr | .epRxExtop | .epRxPlaceholder | .epRxExtlen | .epRxPayload => false

/-- The three link modes (60_exceptions.md R286). -/
inductive LinkMode where
  | sb9600
  | sbep
  | bootstrap
deriving DecidableEq, Repr

/-- The link mode: only `SBEP_MODE` is state of its own (R286). -/
def linkMode (s : State) : LinkMode :=
  if inBoot s.phase then .bootstrap else if s.sbepMode then .sbep else .sb9600

/-- The last column of 10_state.md R28: whether the phase is a hold. -/
def isHold : Phase → Bool
  | .sbXmit | .epXmit | .btPreflight | .btBlockSend => false
  | .idle | .tRead | .tQuiet | .sbWaitFree | .sbReadback | .sbWaitRelease | .epEnterAck | .epLeaveWait
  | .epReadback | .epAck | .epRxHdr | .epRxExtop | .epRxPlaceholder | .epRxExtlen | .epRxPayload
  | .btReadyWait | .btNegotiate | .btBlockEcho | .btFinalWait => true

end Sys2Proof.Machine
end

