-- ==== Sys2Proof/Machine/Ops.lean ====
section
/-! DEFINITION. The named operations: events, the transport primitives (41_transport.md), the working registers and
their undefined contents, the end of an operation and the error exit (60_exceptions.md R276), the host's loading of the
image, and a reset applied to the running machine (70_reset_and_hazards.md R311). -/

namespace Sys2Proof.Machine

/-- `emit E` (00_scope.md R18). -/
def emit (e : Event) (s : State) : State := { s with trace := s.trace ++ [e] }

/-- `WRITE(s)` (R152): the bytes go to the wire at once, in order. -/
def writeLine (bs : Bytes) (s : State) : State := emit (.tx bs) { s with wire := s.wire ++ bs }

/-- `FLUSH_IN()` (R155). -/
def flushInput (s : State) : State := emit (.drop s.rxq) { s with rxq := [] }

/-- `FLUSH_OUT()` (R157): an ordering point with no effect. -/
def flushOutput (s : State) : State := s

/-- `SET_BUSY(v)` (R162). -/
def driveBusy (v : Bool) (s : State) : State := emit (.busy v) { s with busyOut := v }

/-- `SET_BAUD(r)` (R165). -/
def driveBaud (r : Nat) (s : State) : State := emit (.baud r) { s with baud := r }

/-- `RXBUF` and `RXLEN` together (R25). -/
def setRxbuf (bs : Bytes) (s : State) : State :=
  { s with w := { s.w with rxbuf := bs, rxlen := BitVec.ofNat 9 bs.length } }

/-- `TXBUF` and `TXLEN` together (R25). -/
def setTxbuf (bs : Bytes) (s : State) : State :=
  { s with w := { s.w with txbuf := bs, txlen := BitVec.ofNat 9 bs.length } }

/-- `OPCODE`, `DATA` and `DLEN` together (R24). -/
def setMessage (opcode : Byte) (data : Bytes) (s : State) : State :=
  { s with w := { s.w with opcode := opcode, data := data, dlen := BitVec.ofNat 8 data.length } }

/-- `sb9600_frame` into `FRAME` and `ACC` (R181). -/
def buildFrame (a sub v o : Byte) (s : State) : State :=
  { s with w := { s.w with
      frame := { address := a, subaddress := sub, value := v, operation := o, crc := sb9600Crc s.cfg.table [a, sub, v, o] }
      acc := sb9600Crc s.cfg.table [a, sub, v, o] } }

/-- The bytes of `FRAME` in wire order (R94). -/
def frameBytes (f : FrameReg) : Bytes := [f.address, f.subaddress, f.value, f.operation, f.crc]

/-- Undefined bytes: free values, as many as asked (notes/assumptions/13.md). -/
def freeBytes (n : Nat) (slot : Slot) (count : Nat) : Bytes := (List.range count).map fun i => Config.freeByte n slot i

/-- `RXBUF` with undefined contents and `RXLEN` as it was: what R21 leaves of a received frame, whose length the end
state of program P7 (95_test_vectors.md) gives (notes/assumptions/14.md). -/
def loseRxbuf (s : State) : State := setRxbuf (freeBytes s.free .rxbuf s.w.rxbuf.length) s

/-- Undefined contents of an item of varying length. -/
def freeSequence (n : Nat) (slot : Slot) : Bytes := freeBytes n slot (Config.freeLen n slot)

/-- The working registers with one item's contents undefined, within the capacity of R24 to R26. -/
def scramble (n : Nat) (w : Working) : Slot → Working
  | .frame => { w with frame := { address := Config.freeByte n .frame 0, subaddress := Config.freeByte n .frame 1,
                                  value := Config.freeByte n .frame 2, operation := Config.freeByte n .frame 3,
                                  crc := Config.freeByte n .frame 4 } }
  | .acc => { w with acc := Config.freeByte n .acc 0 }
  | .opcode => { w with opcode := Config.freeByte n .opcode 0 }
  | .data =>
    let d := (freeSequence n .data).take 254
    { w with data := d, dlen := BitVec.ofNat 8 d.length }
  | .txbuf =>
    let d := (freeSequence n .txbuf).take 258
    { w with txbuf := d, txlen := BitVec.ofNat 9 d.length }
  | .rxbuf =>
    let d := (freeSequence n .rxbuf).take 258
    { w with rxbuf := d, rxlen := BitVec.ofNat 9 d.length }
  | .blk => { w with blk := freeBytes n .blk 8 }
  | .echo => { w with echo := freeBytes n .echo 16 }
  | .rdy => { w with rdy := freeBytes n .rdy 8 }
  | .resp => { w with resp := freeSequence n .resp }
  | .rxq => w
  | .img => w
  | .cursor => w
  | .savedTimeout => w

/-- Working registers "become undefined" (R21, R276): one drawing of free values. -/
def forget (lost : List Slot) (s : State) : State :=
  { s with w := lost.foldl (scramble s.free) s.w, free := s.free + 1 }

/-- The working registers of the operation that a phase belongs to (R22 to R26, R180, R200). -/
def workingOf : Phase → List Slot
  | .idle => []
  | .tRead => []
  | .tQuiet => []
  | .sbWaitFree => [.frame, .acc, .rxbuf]
  | .sbXmit => [.frame, .acc, .rxbuf]
  | .sbReadback => [.frame, .acc, .rxbuf]
  | .sbWaitRelease => [.frame, .acc, .rxbuf]
  | .epEnterAck => []
  | .epLeaveWait => []
  | .epXmit => [.opcode, .data, .acc, .txbuf, .rxbuf]
  | .epReadback => [.opcode, .data, .acc, .txbuf, .rxbuf]
  | .epAck => [.opcode, .data, .acc, .txbuf, .rxbuf]
  | .epRxHdr => [.opcode, .data, .acc, .rxbuf]
  | .epRxExtop => [.opcode, .data, .acc, .rxbuf]
  | .epRxPlaceholder => [.opcode, .data, .acc, .rxbuf]
  | .epRxExtlen => [.opcode, .data, .acc, .rxbuf]
  | .epRxPayload => [.opcode, .data, .acc, .rxbuf]
  | .btPreflight => [.blk, .echo, .rdy, .resp]
  | .btReadyWait => [.blk, .echo, .rdy, .resp]
  | .btNegotiate => [.blk, .echo, .rdy, .resp]
  | .btBlockSend => [.blk, .echo, .rdy, .resp]
  | .btBlockEcho => [.blk, .echo, .rdy, .resp]
  | .btFinalWait => [.blk, .echo, .rdy, .resp]

/-- The end of an operation: `STATUS`, `PHASE`, `End`, the session gone (R34, R43), the results for the host, and the
given working registers undefined (R21). -/
def endOp (k : Status) (res : Result) (lost : List Slot) (s : State) : State :=
  emit (.ended k) { forget lost s with phase := .idle, status := k, session := none, result := res }

/-- `raise K`, the error exit (R276): the one way an error is taken. -/
def raiseError (k : Status) (s : State) : State := endOp k .none (workingOf s.phase) s

/-- `return` from an operation that leaves nothing in its working registers (R18, R21). -/
def finishOp (res : Result) (s : State) : State := endOp .ok res (workingOf s.phase) s

/-- The image a session has latched; empty before preflight has passed (R43, R232; notes/assumptions/20.md). -/
def sessionImage (s : State) : Bytes :=
  match s.session with
  | some x => x.bootImage.getD []
  | none => []

/-- The ready patterns a session has latched (R232). -/
def sessionReadySet (s : State) : List Bytes :=
  match s.session with
  | some x => x.readySet
  | none => []

/-- The bootloader rate a session has latched (R43, C5). -/
def sessionBaud (s : State) : Nat :=
  match s.session with
  | some x => x.baud
  | none => s.baud

/-- The start of the session at the start of `BOOT` (R43): the rate and the ready patterns as they are then (R75), no
image yet. -/
def openSession (s : State) : State :=
  { s with session := some { bootImage := none, baud := s.cfg.bootBaud, readySet := s.cfg.readySet } }

/-- Latching at preflight (R232): the image as `MemRead` gives it, the rate and the ready patterns. -/
def latchSession (s : State) : State :=
  { s with session := some { bootImage := some (memRead s.img s.imgLen.toNat 0 s.imgLen.toNat)
                             baud := s.cfg.bootBaud
                             readySet := s.cfg.readySet } }

/-- The host loads an image while the engine is idle (R40, R314). An image that `IMG_LEN` cannot count is not loaded
(notes/assumptions/18.md). -/
def loadImage (image : Bytes) (s : State) : State :=
  if image.length < 2 ^ 32 then
    { s with img := memOfBytes 0 image, imgLen := BitVec.ofNat 32 image.length, imgValid := true }
  else s

/-- The host takes the image away: a missing file (R40). -/
def unloadImage (s : State) : State := { s with imgValid := false }

/-- A reset applied to the machine as it is (R311): the reset values of R46, what R46 leaves unspecified undefined, the
environment's and the host's side as it was (notes/assumptions/17.md). -/
def applyReset (s : State) : State :=
  { State.reset with
    cfg := s.cfg
    timeout := s.cfg.readTimeout
    savedTimeout := Config.freeLen s.free .savedTimeout
    busyIn := s.busyIn
    rxq := freeSequence s.free .rxq
    wire := s.wire
    img := memOfBytes 0 (freeSequence s.free .img)
    imgLen := BitVec.ofNat 32 (Config.freeLen s.free .img)
    cursor := BitVec.ofNat 13 (0x80 + 8 * (Config.freeLen s.free .cursor % 497))
    w := [Slot.frame, .acc, .opcode, .data, .txbuf, .rxbuf, .blk, .echo, .rdy, .resp].foldl (scramble s.free) s.w
    sched := s.sched
    free := s.free + 1 }

end Sys2Proof.Machine
end

