-- ==== Sys2Proof/Machine/Sequencer.lean ====
section
/-! DEFINITION. The sequencer: every edge of 10_state.md R47, the environment's steps (20_memory.md R65), and the
running of an operation along the turns of the three agents (notes/assumptions/2.md, 3.md, 4.md). -/

namespace Sys2Proof.Machine

/-- How many bytes the read asks for that the engine is held in, if it is held in one (R69, R153, R160). -/
def pendingRead (s : State) : Option Nat :=
  match s.phase with
  | .tRead => some s.w.readCount
  | .tQuiet => some s.cfg.quietChunk
  | .sbReadback => some 5
  | .epEnterAck => some 1
  | .epReadback => some s.w.txlen.toNat
  | .epAck => some 1
  | .epRxHdr => some 1
  | .epRxExtop => some 1
  | .epRxPlaceholder => some 1
  | .epRxExtlen => some 1
  | .epRxPayload => some (headerDataLen s.w.rxbuf)
  | .btNegotiate => some 2
  | .idle | .sbWaitFree | .sbXmit | .sbWaitRelease | .epLeaveWait | .epXmit | .btPreflight | .btReadyWait
  | .btBlockSend | .btBlockEcho | .btFinalWait => none

/-- Entry to finalization (R255). -/
def enterFinal (s : State) : State := { flushInput (driveBaud 115200 s) with phase := .btFinalWait }

/-- Entry to baud negotiation (R244). -/
def enterNegotiation (s : State) : State :=
  writeLine [triggerByte] (flushInput (driveBaud (sessionBaud s) { s with phase := .btNegotiate }))

/-- The block loop's test (R250): the next block, or finalization. -/
def nextBlock (s : State) : State :=
  if s.cursor.toNat < (sessionImage s).length then { s with phase := .btBlockSend } else enterFinal s

/-- The phase in which `SBEP_RECEIVE` goes on after the header byte (R47, R203). -/
def afterHeaderByte (h : Byte) : Phase :=
  if opcodeExtended h then .epRxExtop else if lengthExtended h then .epRxPlaceholder else .epRxPayload

/-- The end of `SBEP_RECEIVE` on a whole payload (R203, R210, R211). On success `OPCODE`, `DATA` and `DLEN` are its
results (R24, R27); `RXBUF` and `ACC` are working state, whose values end with the operation (R21, R23, R25). -/
def receiveVerdict (payload : Bytes) (s : State) : State :=
  let header := s.w.rxbuf
  let s := setRxbuf (header ++ payload) s
  match frameVerdict header payload with
  | some (opcode, data) => endOp .ok .none [.acc] (loseRxbuf (setMessage opcode data s))
  | none => raiseError .checksumFailure s

/-- The edge taken when the read that the engine is held in returns `r`, in full or short (R47, R153, R158). DESIGN
CHOICE: `SAVED_TIMEOUT` keeps the last copy after `WAIT_FOR_QUIET` has ended; R37 restores `TIMEOUT` from it, and no
rule says what it then holds (notes/assumptions/29.md). -/
def afterRead (r : Bytes) (s : State) : State :=
  match s.phase with
  | .tRead => finishOp (.bytes r) (emit (.rx r) s)
  | .tQuiet =>
    let s := emit (.drop r) s
    if r = [] then finishOp .none { s with timeout := s.savedTimeout } else s
  | .sbReadback =>
    let s := setRxbuf r (emit (.rx r) s)
    if r = frameBytes s.w.frame then { driveBusy false s with phase := .sbWaitRelease }
    else raiseError .transmitMismatch s
  | .epEnterAck =>
    let s := emit (.rx r) s
    if r = [ackByte] then finishOp .none { s with sbepMode := true }
    else raiseError .notAcknowledged { driveBusy false s with sbepMode := false }
  | .epReadback =>
    let s := setRxbuf r (emit (.rx r) s)
    if r = s.w.txbuf then { s with phase := .epAck } else raiseError .transmitMismatch s
  | .epAck =>
    let s := emit (.rx r) s
    if r = [ackByte] then finishOp .none s else raiseError .notAcknowledged s
  | .epRxHdr =>
    let s := emit (.rx r) s
    match r with
    | h :: _ => { setRxbuf [h] s with phase := afterHeaderByte h }
    | [] => raiseError .checksumFailure s
  | .epRxExtop =>
    let s := emit (.rx r) s
    match r with
    | e :: _ => { setRxbuf (s.w.rxbuf ++ [e]) s with
                  phase := if lengthExtended (s.w.rxbuf.getD 0 0) then .epRxExtlen else .epRxPayload }
    | [] => raiseError .checksumFailure s
  | .epRxPlaceholder =>
    let s := emit (.rx r) s
    match r with
    | p :: _ => { setRxbuf (s.w.rxbuf ++ [p]) s with phase := .epRxExtlen }
    | [] => raiseError .checksumFailure s
  | .epRxExtlen =>
    let s := emit (.rx r) s
    match r with
    | l :: _ => { setRxbuf (s.w.rxbuf ++ [l]) s with phase := .epRxPayload }
    | [] => raiseError .checksumFailure s
  | .epRxPayload =>
    let s := emit (.rx r) s
    if r.length < headerDataLen s.w.rxbuf then raiseError .checksumFailure s else receiveVerdict r s
  | .btNegotiate =>
    let s := emit (.rx r) { s with w := { s.w with resp := r } }
    if r = [triggerByte, triggerAckByte] then nextBlock { s with cursor := 0x80#13 } else s
  | .idle | .sbWaitFree | .sbXmit | .sbWaitRelease | .epLeaveWait | .epXmit | .btPreflight | .btReadyWait
  | .btBlockSend | .btBlockEcho | .btFinalWait => s

/-- A read ends: it takes the first `n` bytes of the queue, or all of them if there are fewer (R66, R153). -/
def completeRead (n : Nat) (s : State) : State := afterRead (s.rxq.take n) { s with rxq := s.rxq.drop n }

/-- The ready-detection read of 8 bytes and its test (R240, R241, R242). -/
def readyTest (s : State) : State :=
  let r := s.rxq.take 8
  let s := emit (.rx r) { s with rxq := s.rxq.drop 8, w := { s.w with rdy := r } }
  if r ∈ sessionReadySet s then enterNegotiation s else emit (.log r) s

/-- The echo read of 16 bytes and its test (R252). -/
def echoTest (s : State) : State :=
  let r := s.rxq.take 16
  let s := emit (.rx r) { s with rxq := s.rxq.drop 16, w := { s.w with echo := r } }
  if r = s.w.blk ++ s.w.blk then nextBlock { s with cursor := s.cursor + 8#13 } else raiseError .echoMismatch s

/-- The final read of what is available and its test (R256). -/
def finalTest (s : State) : State :=
  let r := s.rxq
  let s := emit (.rx r) { s with rxq := [], w := { s.w with resp := r } }
  if r = [ackByte] then finishOp .none s else raiseError .bootstrapFailed s

/-- Preflight (R232) and the entry to ready detection (R238). -/
def preflight (s : State) : State :=
  if s.imgValid = false ∨ 4096 < s.imgLen.toNat then raiseError .bootloaderFileError s
  else { flushInput (driveBaud 460 (latchSession s)) with phase := .btReadyWait }

/-- Forming and writing one block (R251, R252). -/
def sendBlock (s : State) : State :=
  let b := blockAt (sessionImage s) s.cursor.toNat
  { writeLine b { s with w := { s.w with blk := b } } with phase := .btBlockEcho }

/-- Encoding and writing an SBEP frame (R208). -/
def sendMessage (s : State) : State :=
  let m := sbepFrame s.w.opcode s.w.data
  let s := setTxbuf m { s with w := { s.w with acc := byteSum (sbepHeader s.w.opcode (s.w.data.length + 1) ++ s.w.data) } }
  { writeLine m (flushInput s) with phase := .epReadback }

/-- Asserting BUSY and writing an SB9600 frame (R183). -/
def sendFrame (s : State) : State :=
  { flushOutput (writeLine (frameBytes s.w.frame) (flushInput (driveBusy true s))) with phase := .sbReadback }

/-- The edges of R47 that are not the end of a read. -/
def edgeTurn (s : State) : State :=
  match s.phase with
  | .sbWaitFree => if isBusy s then s else { s with phase := .sbXmit }
  | .sbXmit => sendFrame s
  | .sbWaitRelease => if isBusy s then s else finishOp .none s
  | .epLeaveWait => if isBusy s then s else finishOp .none { s with sbepMode := false }
  | .epXmit => sendMessage s
  | .btPreflight => preflight s
  | .btReadyWait => if 8 ≤ s.rxq.length then readyTest s else s
  | .btBlockSend => sendBlock s
  | .btBlockEcho => if 16 ≤ s.rxq.length then echoTest s else s
  | .btFinalWait => if 1 ≤ s.rxq.length then finalTest s else s
  | .idle | .tRead | .tQuiet | .sbReadback | .epEnterAck | .epReadback | .epAck | .epRxHdr | .epRxExtop
  | .epRxPlaceholder | .epRxExtlen | .epRxPayload | .btNegotiate => s

/-- The engine's turn: it takes the edge of R47 whose condition holds, or stays (a hold, R14). -/
def engineTurn (s : State) : State :=
  match pendingRead s with
  | some n => if n ≤ s.rxq.length then completeRead n s else s
  | none => edgeTurn s

/-- `EnvTimeout` (R65, R66): it ends the read that is short of bytes, and is not enabled otherwise. -/
def timeoutTurn (s : State) : State :=
  match pendingRead s with
  | some n => if n ≤ s.rxq.length then s else completeRead n s
  | none => s

/-- A step of the environment (R65). -/
def envTurn (e : EnvStep) (s : State) : State :=
  match e with
  | .rx b => { s with rxq := s.rxq ++ [b] }
  | .busy v => { s with busyIn := v }
  | .timeout => timeoutTurn s

/-- Bytes that the line delivers one by one, the engine sampling after each (notes/assumptions/27.md). -/
def deliver : Bytes → State → State
  | [], s => s
  | b :: bs, s => deliver bs (engineTurn (envTurn (.rx b) s))

/-- What a cancelled operation's own rule does before the error exit: `SBEP_ENTER` de-asserts (R206, R276), and
`WAIT_FOR_QUIET` leaves `TIMEOUT` as it was before it (R37; notes/assumptions/19.md) and `SAVED_TIMEOUT` with the last
copy (notes/assumptions/29.md). -/
def beforeCancel (s : State) : State :=
  match s.phase with
  | .epEnterAck => { driveBusy false s with sbepMode := false }
  | .tQuiet => { s with timeout := s.savedTimeout }
  | .idle | .tRead | .sbWaitFree | .sbXmit | .sbReadback | .sbWaitRelease | .epLeaveWait | .epXmit | .epReadback
  | .epAck | .epRxHdr | .epRxExtop | .epRxPlaceholder | .epRxExtlen | .epRxPayload | .btPreflight | .btReadyWait
  | .btNegotiate | .btBlockSend | .btBlockEcho | .btFinalWait => s

/-- The expiry of a deadline (R284): it ends a hold of a running operation, where the configuration has a deadline. What
counts as a hold is R28's list of phases. DESIGN CHOICE: an expiry may come before the engine has taken the edge
whose condition is already met (enough bytes queued, `READ 0`, `BUSY_IN` already 0), and then cancels. DESIGN CHOICE:
an expiry that ends a read takes no byte: what is queued stays in `RXQ`, and there is no `Rx` event
(notes/assumptions/19.md). -/
def deadlineTurn (s : State) : State :=
  if s.cfg.deadline.isSome = true ∧ s.phase ≠ .idle ∧ isHold s.phase = true then raiseError .cancelled (beforeCancel s)
  else s

/-- A turn that the engine or the environment takes while an operation runs; the host's own turns are none. -/
def runTurn (t : Turn) (s : State) : Option State :=
  match t with
  | .engine => some (engineTurn s)
  | .env e => some (envTurn e s)
  | .line bs => some (deliver bs s)
  | .deadline => some (deadlineTurn s)
  | .host _ => none
  | .load _ => none
  | .unload => none
  | .reset => none

/-- The engine alone, for as many turns as given or until the operation has ended: what it does when the other agents
take no further turn (notes/assumptions/3.md). -/
def settle : Nat → State → State
  | 0, s => s
  | k + 1, s => if s.phase = .idle then s else settle k (engineTurn s)

/-- Turns of its own within which the engine holds or has ended: the queued bytes, and a few for the edges that take
none (notes/assumptions/3.md). -/
def settleTurns (s : State) : Nat := s.rxq.length + 8

/-- A running operation along the turns to come: it goes on until it has ended, until a turn of the host's, or, when no
turn is left, until the engine holds. The turns not taken stay (notes/assumptions/4.md). -/
def run : List Turn → State → State
  | [], s => { settle (settleTurns s) s with sched := [] }
  | t :: ts, s =>
    if s.phase = .idle then { s with sched := t :: ts }
    else
      match runTurn t s with
      | some s' => run ts s'
      | none => { s with sched := t :: ts }

/-- An operation that has just been issued runs along the turns of the state. -/
def operate (s : State) : State := run s.sched s

/-- The command port (30_encoding.md R91, R93): a well-formed command starts in `IDLE`; any other is refused, which
changes nothing (notes/assumptions/7.md). -/
def command (wellFormed : Bool) (op : State → State) (s : State) : Host.Outcome State Fault Refusal :=
  .next (if wellFormed = true ∧ s.phase = .idle then op s else s)

end Sys2Proof.Machine
end

