-- ==== Sys2Proof/Machine/Boot.lean ====
section
/-! DEFINITION. The Bootstrap Handshake's command (44_bootstrap.md R230 to R259); its five phases are edges of the
sequencer. -/

namespace Sys2Proof.Machine

/-- `BOOT` (R230): the session starts with it (R43). -/
def execBoot (s : State) : Host.Outcome State Fault Refusal :=
  command true (fun s => operate { openSession s with phase := .btPreflight }) s

end Sys2Proof.Machine
end

