-- ==== Sys2Proof/Machine/ChecksumOps.lean ====
section
/-! DEFINITION. The Checksum Engine's commands (40_checksum.md R130 to R138). -/

namespace Sys2Proof.Machine

/-- `SB9600_CRC s` (R131): the CRC as the result; `ACC` was used. -/
def execSb9600Crc (bs : Bytes) (s : State) : Host.Outcome State Fault Refusal :=
  command true (fun s => endOp .ok (.byte (sb9600Crc s.cfg.table bs)) [.acc] s) s

/-- `SBEP_CHECKSUM s` (R137): the checksum as the result; `ACC` was used. -/
def execSbepChecksum (bs : Bytes) (s : State) : Host.Outcome State Fault Refusal :=
  command true (fun s => endOp .ok (.byte (sbepChecksum bs)) [.acc] s) s

end Sys2Proof.Machine
end

