-- ==== Sys2Proof/Machine/Line.lean ====
section
/-! DEFINITION. The wire formats as they reach the engine's rx port: the line delivers their bytes, first-listed byte
first (20_memory.md R67), and the engine samples the line after each (notes/assumptions/1.md, 27.md). What the engine
makes of them is the test of the phase it is in. -/

namespace Sys2Proof.Machine

/-- An `SB9600` frame comes back (R94, R183). -/
def execSb9600Frame (a sub v o c : Byte) (s : State) : Host.Outcome State Fault Refusal :=
  .next (deliver [a, sub, v, o, c] s)

/-- An SBEP header of form A arrives (R98, R210). -/
def execSbepHeaderA (opcode dataLen : Nibble) (s : State) : Host.Outcome State Fault Refusal :=
  .next (deliver [packNibbles opcode dataLen] s)

/-- An SBEP header of form B arrives (R98, R210). -/
def execSbepHeaderB (dataLen : Nibble) (opcode : Byte) (s : State) : Host.Outcome State Fault Refusal :=
  .next (deliver [packNibbles 0xF#4 dataLen, opcode] s)

/-- An SBEP header of form C arrives (R98, R210). -/
def execSbepHeaderC (opcode : Nibble) (placeholder dataLen : Byte) (s : State) : Host.Outcome State Fault Refusal :=
  .next (deliver [packNibbles opcode 0xF#4, placeholder, dataLen] s)

/-- An SBEP header of form D arrives (R98, R210). -/
def execSbepHeaderD (opcode dataLen : Byte) (s : State) : Host.Outcome State Fault Refusal :=
  .next (deliver [0xFF#8, opcode, dataLen] s)

/-- The acknowledgement arrives (R106; tested in R206 and R208). -/
def execAck (s : State) : Host.Outcome State Fault Refusal :=
  .next (deliver [ackByte] s)

/-- The trigger byte comes back alone: half of the response (R102, R245). -/
def execTrigger (s : State) : Host.Outcome State Fault Refusal :=
  .next (deliver [triggerByte] s)

/-- The response to the trigger arrives (R102; tested in R245). -/
def execTriggerResponse (s : State) : Host.Outcome State Fault Refusal :=
  .next (deliver [triggerByte, triggerAckByte] s)

/-- A block comes back: half of its echo (R103; tested in R252). -/
def execBlock (data : Bytes) (s : State) : Host.Outcome State Fault Refusal :=
  .next (deliver data s)

/-- Eight bytes offered as a ready pattern arrive (R104; tested in R241). -/
def execReady (pattern : Bytes) (s : State) : Host.Outcome State Fault Refusal :=
  .next (deliver pattern s)

/-- The final response arrives (R105; tested in R256). -/
def execFinalAck (s : State) : Host.Outcome State Fault Refusal :=
  .next (deliver [ackByte] s)

end Sys2Proof.Machine
end

