-- ==== Sys2Proof/Machine/Sb9600.lean ====
section
/-! DEFINITION. The SB9600 codec's commands (42_sb9600.md R180 to R187). -/

namespace Sys2Proof.Machine

/-- `SB9600_SEND` (R183): the frame is built at issue; then ACQUIRE, transmit, read back, RELEASE. -/
def execSb9600Send (a sub v o : Byte) (s : State) : Host.Outcome State Fault Refusal :=
  command true (fun s => operate { buildFrame a sub v o s with phase := .sbWaitFree }) s

/-- `SB9600_CHECK` (R186): the validity bit and the four leading bytes; an invalid frame is a result, not an error. -/
def execSb9600Check (f0 f1 f2 f3 f4 : Byte) (s : State) : Host.Outcome State Fault Refusal :=
  command true
    (fun s => endOp .ok (.checked (sb9600Valid s.cfg.table f0 f1 f2 f3 f4) f0 f1 f2 f3) [.frame, .acc] s) s

end Sys2Proof.Machine
end

