-- ==== Sys2Proof/Machine/Operands.lean ====
section
/-! DEFINITION. Operands of commands: the ranges of 30_encoding.md R93, and the bytes in which the model presents
operands on the command port, which R91 leaves open (notes/assumptions/5.md): a count is written seven bits a byte,
least significant first, bit 7 set on every byte but the last; a sequence is its length as a count, then its bytes. -/

namespace Sys2Proof.Machine

/-- The five rates of 10_state.md R36. -/
def legalRates : List Nat := [460, 2212, 2400, 9600, 115200]

/-- A `SET_BAUD` operand within its range (R93, R165). -/
def rateLegal (r : Nat) : Bool := legalRates.contains r

/-- A `SET_BUSY` operand that is one bit (R93, R162). -/
def bitLegal (v : Byte) : Bool := v == 0x00#8 || v == 0x01#8

/-- The longest data field an SBEP frame can carry (R16, R96). -/
def maxData : Nat := 254

/-- An `SBEP_SEND` data field within its range (R93, R202). -/
def dataLegal (data : Bytes) : Bool := decide (data.length ≤ maxData)

/-- `natBytes` with a bound on how many bytes may follow. -/
def natBytesFuel : Nat → Nat → Bytes
  | 0, n => [BitVec.ofNat 8 n]
  | k + 1, n =>
    if n < 128 then [BitVec.ofNat 8 n]
    else BitVec.ofNat 8 (n % 128 + 128) :: natBytesFuel k (n / 128)

/-- A count as operand bytes. -/
def natBytes (n : Nat) : Bytes := natBytesFuel n n

/-- A count read from operand bytes, with what follows it. -/
def takeNat : Bytes → Option (Nat × Bytes)
  | [] => none
  | b :: bs =>
    if b.toNat < 128 then some (b.toNat, bs)
    else
      match takeNat bs with
      | some (m, rest) => some (b.toNat - 128 + 128 * m, rest)
      | none => none

/-- A byte sequence as operand bytes. -/
def seqBytes (s : Bytes) : Bytes := natBytes s.length ++ s

/-- A byte sequence read from operand bytes, with what follows it. -/
def takeSeq (bs : Bytes) : Option (Bytes × Bytes) :=
  match takeNat bs with
  | some (n, rest) => if n ≤ rest.length then some (rest.take n, rest.drop n) else none
  | none => none

end Sys2Proof.Machine
end

