-- ==== Sys2Proof/Machine/Sbep.lean ====
section
/-! DEFINITION. The SBEP codec's commands (43_sbep.md R200 to R211). -/

namespace Sys2Proof.Machine

/-- `SBEP_ENTER` (R206): BUSY is asserted without sampling the peer's line and without a flush. -/
def execSbepEnter (s : State) : Host.Outcome State Fault Refusal :=
  command true (fun s => operate { driveBusy true s with phase := .epEnterAck }) s

/-- `SBEP_LEAVE` (R207): BUSY is de-asserted, then the engine waits for the peer. -/
def execSbepLeave (s : State) : Host.Outcome State Fault Refusal :=
  command true (fun s => operate { driveBusy false s with phase := .epLeaveWait }) s

/-- `SBEP_SEND opcode, data` (R208). -/
def execSbepSend (opcode : Byte) (data : Bytes) (s : State) : Host.Outcome State Fault Refusal :=
  command (dataLegal data) (fun s => operate { setMessage opcode data s with phase := .epXmit }) s

/-- `SBEP_RECEIVE` (R210). -/
def execSbepReceive (s : State) : Host.Outcome State Fault Refusal :=
  command true (fun s => operate { setRxbuf [] s with phase := .epRxHdr }) s

end Sys2Proof.Machine
end

