-- ==== Sys2Proof/Machine/Transport.lean ====
section
/-! DEFINITION. The Transport's commands (41_transport.md R150 to R165). None ends with an error kind (R150). -/

namespace Sys2Proof.Machine

/-- `WRITE s` (R152). -/
def execWrite (bs : Bytes) (s : State) : Host.Outcome State Fault Refusal :=
  command true (fun s => endOp .ok .none [] (writeLine bs s)) s

/-- `READ n` (R153): held in `T_READ` until `n` bytes are queued or the timeout fires. -/
def execRead (n : Nat) (s : State) : Host.Outcome State Fault Refusal :=
  command true (fun s => operate { s with phase := .tRead, w := { s.w with readCount := n } }) s

/-- `AVAIL` (R154): the number of queued bytes. -/
def execAvail (s : State) : Host.Outcome State Fault Refusal :=
  command true (fun s => endOp .ok (.count s.rxq.length) [] s) s

/-- `FLUSH_IN` (R155). -/
def execFlushIn (s : State) : Host.Outcome State Fault Refusal :=
  command true (fun s => endOp .ok .none [] (flushInput s)) s

/-- `FLUSH_OUT` (R157): an ordering point; it changes nothing but the end of an operation. -/
def execFlushOut (s : State) : Host.Outcome State Fault Refusal :=
  command true (fun s => endOp .ok .none [] (flushOutput s)) s

/-- `WAIT_FOR_QUIET d` (R160): the timeout is saved and shortened, then the drain loop runs in `T_QUIET`. -/
def execWaitForQuiet (d : Nat) (s : State) : Host.Outcome State Fault Refusal :=
  command true (fun s => operate { s with phase := .tQuiet, savedTimeout := s.timeout, timeout := d }) s

/-- `SET_BUSY v` (R162). -/
def execSetBusy (v : Byte) (s : State) : Host.Outcome State Fault Refusal :=
  command (bitLegal v) (fun s => endOp .ok .none [] (driveBusy (v == 0x01#8) s)) s

/-- `IS_BUSY` (R163): a sample of `BUSY_IN`. -/
def execIsBusy (s : State) : Host.Outcome State Fault Refusal :=
  command true (fun s => endOp .ok (.bit (isBusy s)) [] s) s

/-- `SET_BAUD r` (R165): no flush. -/
def execSetBaud (r : Nat) (s : State) : Host.Outcome State Fault Refusal :=
  command (rateLegal r) (fun s => endOp .ok .none [] (driveBaud r s)) s

end Sys2Proof.Machine
end

