-- ==== Sys2Proof/Syntax.lean ====
section
/-! DEFINITION. The syntax: one constructor per row of spec/opcode_table.json. The first eighteen are the commands of
30_encoding.md R92, which the host presents on the command port. The last eleven are the wire formats of R90 to R106,
which the shared line carries to the engine's rx port (notes/assumptions/1.md). -/

namespace Sys2Proof

/-- One row of the opcode table with its operands. -/
inductive Instr where
  /-- `SB9600_CRC s` (R131). -/
  | sb9600Crc (s : Bytes)
  /-- `SBEP_CHECKSUM s` (R137). -/
  | sbepChecksum (s : Bytes)
  /-- `WRITE s` (R152). -/
  | write (s : Bytes)
  /-- `READ n` (R153). -/
  | read (n : Nat)
  /-- `AVAIL` (R154). -/
  | avail
  /-- `FLUSH_IN` (R155). -/
  | flushIn
  /-- `FLUSH_OUT` (R157). -/
  | flushOut
  /-- `WAIT_FOR_QUIET d` (R160); the duration is carried, not interpreted. -/
  | waitForQuiet (d : Nat)
  /-- `SET_BUSY v` (R162); an operand byte other than 0 and 1 is ill-formed (R93). -/
  | setBusy (v : Byte)
  /-- `IS_BUSY` (R163). -/
  | isBusy
  /-- `SET_BAUD r` (R165); a rate outside the five of R36 is ill-formed (R93). -/
  | setBaud (r : Nat)
  /-- `SB9600_SEND address, subaddress, value, operation` (R183). -/
  | sb9600Send (address subaddress value operation : Byte)
  /-- `SB9600_CHECK f` on five bytes (R186). -/
  | sb9600Check (f0 f1 f2 f3 f4 : Byte)
  /-- `SBEP_ENTER` (R206). -/
  | sbepEnter
  /-- `SBEP_LEAVE` (R207). -/
  | sbepLeave
  /-- `SBEP_SEND opcode, data` (R208); more than 254 data bytes are ill-formed (R93, R202). -/
  | sbepSend (opcode : Byte) (data : Bytes)
  /-- `SBEP_RECEIVE` (R210). -/
  | sbepReceive
  /-- `BOOT` (R230). -/
  | boot
  /-- The wire format `SB9600`, five bytes (R94). -/
  | sb9600Frame (address subaddress value operation crc : Byte)
  /-- SBEP header form A, `oooo llll` (R98). -/
  | sbepHeaderA (opcode dataLen : Nibble)
  /-- SBEP header form B, `1111 llll`, then the opcode byte (R98). -/
  | sbepHeaderB (dataLen : Nibble) (opcode : Byte)
  /-- SBEP header form C, `oooo 1111`, then the placeholder and the length byte (R98). -/
  | sbepHeaderC (opcode : Nibble) (placeholder dataLen : Byte)
  /-- SBEP header form D, `1111 1111`, then the opcode and the length byte (R98). -/
  | sbepHeaderD (opcode dataLen : Byte)
  /-- The byte `0x50` where an acknowledgement is expected (R106). -/
  | ack
  /-- The byte `0xFD`, as the line returns it (R102). -/
  | trigger
  /-- The two bytes `0xFD 0xFF` (R102). -/
  | triggerResponse
  /-- Eight bytes of an image block, as the line returns them (R103). -/
  | block (data : Bytes)
  /-- Eight bytes offered as a ready pattern (R104). -/
  | ready (pattern : Bytes)
  /-- The byte `0x50` where the final response is expected (R105). -/
  | finalAck
deriving DecidableEq, Repr

end Sys2Proof
end

