-- ==== Sys2Proof/Machine/Dispatch.lean ====
section
/-! DEFINITION. One arm per row of spec/opcode_table.json, each one direct call of its meaning. -/

namespace Sys2Proof.Machine

def exec (i : Instr) (s : State) : Host.Outcome State Fault Refusal :=
  match i with
  | .sb9600Crc bs => Sys2Proof.Machine.execSb9600Crc bs s
  | .sbepChecksum bs => Sys2Proof.Machine.execSbepChecksum bs s
  | .write bs => Sys2Proof.Machine.execWrite bs s
  | .read n => Sys2Proof.Machine.execRead n s
  | .avail => Sys2Proof.Machine.execAvail s
  | .flushIn => Sys2Proof.Machine.execFlushIn s
  | .flushOut => Sys2Proof.Machine.execFlushOut s
  | .waitForQuiet d => Sys2Proof.Machine.execWaitForQuiet d s
  | .setBusy v => Sys2Proof.Machine.execSetBusy v s
  | .isBusy => Sys2Proof.Machine.execIsBusy s
  | .setBaud r => Sys2Proof.Machine.execSetBaud r s
  | .sb9600Send a sub v o => Sys2Proof.Machine.execSb9600Send a sub v o s
  | .sb9600Check f0 f1 f2 f3 f4 => Sys2Proof.Machine.execSb9600Check f0 f1 f2 f3 f4 s
  | .sbepEnter => Sys2Proof.Machine.execSbepEnter s
  | .sbepLeave => Sys2Proof.Machine.execSbepLeave s
  | .sbepSend opcode data => Sys2Proof.Machine.execSbepSend opcode data s
  | .sbepReceive => Sys2Proof.Machine.execSbepReceive s
  | .boot => Sys2Proof.Machine.execBoot s
  | .sb9600Frame a sub v o c => Sys2Proof.Machine.execSb9600Frame a sub v o c s
  | .sbepHeaderA opcode dataLen => Sys2Proof.Machine.execSbepHeaderA opcode dataLen s
  | .sbepHeaderB dataLen opcode => Sys2Proof.Machine.execSbepHeaderB dataLen opcode s
  | .sbepHeaderC opcode placeholder dataLen => Sys2Proof.Machine.execSbepHeaderC opcode placeholder dataLen s
  | .sbepHeaderD opcode dataLen => Sys2Proof.Machine.execSbepHeaderD opcode dataLen s
  | .ack => Sys2Proof.Machine.execAck s
  | .trigger => Sys2Proof.Machine.execTrigger s
  | .triggerResponse => Sys2Proof.Machine.execTriggerResponse s
  | .block data => Sys2Proof.Machine.execBlock data s
  | .ready pattern => Sys2Proof.Machine.execReady pattern s
  | .finalAck => Sys2Proof.Machine.execFinalAck s

end Sys2Proof.Machine
end

