-- ==== Sys2Proof/Decode.lean ====
section
/-! DEFINITION. Decoding: what the command port reads from the bytes the host presents (30_encoding.md R91, R92), and
which wire format a sequence of bytes on the line is (R90 to R106). Total on any bytes; a rejection is named. The
encoder follows, then the host's table words (notes/assumptions/5.md, 6.md). -/

namespace Sys2Proof

/-- The formats of spec/opcode_table.json that the line carries; `FINAL_ACK` and `ACK` are one byte pattern that only
the place where it is expected tells apart (R105, R106). -/
inductive Format where
  | sb9600
  | sbep
  | ack
  | finalAck
  | trigger
  | block
  | ready
deriving DecidableEq, Repr

/-- Where bytes arrive: the command port (R91), or the line, read as one format. -/
inductive Port where
  | command
  | wire (f : Format)
deriving DecidableEq, Repr

/-- Why bytes are no instruction. -/
inductive Reject where
  /-- No byte at all. -/
  | nothingPresented
  /-- A command code that is not in R92 (R93). -/
  | unknownCode (code : Byte)
  /-- The operand bytes end too early. -/
  | operandMissing (code : Byte)
  /-- The bytes do not have the form of the wire format asked for. -/
  | notOfFormat (f : Format)
deriving DecidableEq, Repr

/-- The outcome of decoding: an instruction and the bytes after it, or a named rejection. -/
inductive Decoded where
  | ok (i : Instr) (rest : Bytes)
  | reject (r : Reject)
deriving DecidableEq, Repr

/-- The command whose one operand is a byte sequence. -/
def decodeSeqOperand (code : Byte) (build : Bytes → Instr) (bs : Bytes) : Decoded :=
  match Machine.takeSeq bs with
  | some (s, rest) => .ok (build s) rest
  | none => .reject (.operandMissing code)

/-- The command whose one operand is a count. -/
def decodeNatOperand (code : Byte) (build : Nat → Instr) (bs : Bytes) : Decoded :=
  match Machine.takeNat bs with
  | some (n, rest) => .ok (build n) rest
  | none => .reject (.operandMissing code)

/-- `SET_BUSY`: one operand byte. -/
def decodeSetBusy (code : Byte) : Bytes → Decoded
  | v :: rest => .ok (.setBusy v) rest
  | [] => .reject (.operandMissing code)

/-- `SB9600_SEND`: four operand bytes in the order of R183. -/
def decodeSb9600Send (code : Byte) : Bytes → Decoded
  | a :: s :: v :: o :: rest => .ok (.sb9600Send a s v o) rest
  | _ => .reject (.operandMissing code)

/-- `SB9600_CHECK`: five operand bytes in the order of R186. -/
def decodeSb9600Check (code : Byte) : Bytes → Decoded
  | f0 :: f1 :: f2 :: f3 :: f4 :: rest => .ok (.sb9600Check f0 f1 f2 f3 f4) rest
  | _ => .reject (.operandMissing code)

/-- `SBEP_SEND`: the opcode byte, then the data field. -/
def decodeSbepSend (code : Byte) : Bytes → Decoded
  | opcode :: bs => decodeSeqOperand code (.sbepSend opcode) bs
  | [] => .reject (.operandMissing code)

/-- The command port: the code of R92, then its operands. -/
def decodeCommand : Bytes → Decoded
  | [] => .reject .nothingPresented
  | c :: bs =>
    match c.toNat with
    | 0x10 => decodeSeqOperand c .sb9600Crc bs
    | 0x11 => decodeSeqOperand c .sbepChecksum bs
    | 0x20 => decodeSeqOperand c .write bs
    | 0x21 => decodeNatOperand c .read bs
    | 0x22 => .ok .avail bs
    | 0x23 => .ok .flushIn bs
    | 0x24 => .ok .flushOut bs
    | 0x25 => decodeNatOperand c .waitForQuiet bs
    | 0x26 => decodeSetBusy c bs
    | 0x27 => .ok .isBusy bs
    | 0x28 => decodeNatOperand c .setBaud bs
    | 0x30 => decodeSb9600Send c bs
    | 0x31 => decodeSb9600Check c bs
    | 0x40 => .ok .sbepEnter bs
    | 0x41 => .ok .sbepLeave bs
    | 0x42 => decodeSbepSend c bs
    | 0x43 => .ok .sbepReceive bs
    | 0x60 => .ok .boot bs
    | _ => .reject (.unknownCode c)

/-- The format `SB9600` (R94). -/
def decodeSb9600 : Bytes → Decoded
  | a :: s :: v :: o :: c :: rest => .ok (.sb9600Frame a s v o c) rest
  | _ => .reject (.notOfFormat .sb9600)

/-- The header forms of the format `SBEP` (R98), told apart as R99 says. -/
def decodeSbepHeader : Bytes → Decoded
  | [] => .reject (.notOfFormat .sbep)
  | h :: bs =>
    if Machine.lengthExtended h then
      match bs with
      | b1 :: b2 :: rest =>
        if Machine.opcodeExtended h then .ok (.sbepHeaderD b1 b2) rest
        else .ok (.sbepHeaderC (Machine.highNibble h) b1 b2) rest
      | _ => .reject (.notOfFormat .sbep)
    else if Machine.opcodeExtended h then
      match bs with
      | b1 :: rest => .ok (.sbepHeaderB (Machine.lowNibble h) b1) rest
      | [] => .reject (.notOfFormat .sbep)
    else .ok (.sbepHeaderA (Machine.highNibble h) (Machine.lowNibble h)) bs

/-- The byte `0x50` (R105, R106), as the format that is expected. -/
def decodeAck (f : Format) (i : Instr) : Bytes → Decoded
  | b :: rest => if b = Machine.ackByte then .ok i rest else .reject (.notOfFormat f)
  | [] => .reject (.notOfFormat f)

/-- The format `TRIGGER` (R102): the response where both its bytes stand, else the trigger byte. -/
def decodeTrigger : Bytes → Decoded
  | [] => .reject (.notOfFormat .trigger)
  | b :: rest =>
    if b ≠ Machine.triggerByte then .reject (.notOfFormat .trigger)
    else
      match rest with
      | [] => .ok .trigger []
      | c :: more => if c = Machine.triggerAckByte then .ok .triggerResponse more else .ok .trigger (c :: more)

/-- Eight bytes, as a block (R103) or as a ready pattern (R104). -/
def decodeEight (f : Format) (build : Bytes → Instr) (bs : Bytes) : Decoded :=
  if 8 ≤ bs.length then .ok (build (bs.take 8)) (bs.drop 8) else .reject (.notOfFormat f)

/-- Decoding, at the port where the bytes arrive. -/
def decode : Port → Bytes → Decoded
  | .command, bs => decodeCommand bs
  | .wire .sb9600, bs => decodeSb9600 bs
  | .wire .sbep, bs => decodeSbepHeader bs
  | .wire .ack, bs => decodeAck .ack .ack bs
  | .wire .finalAck, bs => decodeAck .finalAck .finalAck bs
  | .wire .trigger, bs => decodeTrigger bs
  | .wire .block, bs => decodeEight .block .block bs
  | .wire .ready, bs => decodeEight .ready .ready bs

/-- The instruction that the bytes are, whole, in one format. -/
def decodeWhole (f : Format) (bs : Bytes) : Option Instr :=
  match decode (.wire f) bs with
  | .ok i [] => some i
  | _ => none

/-- The formats tried where nothing in particular is expected: the fixed bytes first, then the SBEP headers, then the
formats that any bytes of their length have (notes/assumptions/6.md). -/
def formatsUnasked (bs : Bytes) : List Format :=
  [.ack, .trigger, .sbep, .sb9600,
    if bs = Machine.readyZeros ∨ bs = Machine.readyAlternating then .ready else .block]

/-- Which wire format a burst on the line is: the one the engine expects, if it is of that format, else the first that
fits (notes/assumptions/6.md). -/
def decodeLine (expected : Option Format) (bs : Bytes) : Option Instr :=
  (expected.toList ++ formatsUnasked bs).findSome? fun f => decodeWhole f bs

/-- The port at which an instruction arrives. -/
def Instr.port : Instr → Port
  | .sb9600Crc _ => .command
  | .sbepChecksum _ => .command
  | .write _ => .command
  | .read _ => .command
  | .avail => .command
  | .flushIn => .command
  | .flushOut => .command
  | .waitForQuiet _ => .command
  | .setBusy _ => .command
  | .isBusy => .command
  | .setBaud _ => .command
  | .sb9600Send _ _ _ _ => .command
  | .sb9600Check _ _ _ _ _ => .command
  | .sbepEnter => .command
  | .sbepLeave => .command
  | .sbepSend _ _ => .command
  | .sbepReceive => .command
  | .boot => .command
  | .sb9600Frame _ _ _ _ _ => .wire .sb9600
  | .sbepHeaderA _ _ => .wire .sbep
  | .sbepHeaderB _ _ => .wire .sbep
  | .sbepHeaderC _ _ _ => .wire .sbep
  | .sbepHeaderD _ _ => .wire .sbep
  | .ack => .wire .ack
  | .trigger => .wire .trigger
  | .triggerResponse => .wire .trigger
  | .block _ => .wire .block
  | .ready _ => .wire .ready
  | .finalAck => .wire .finalAck

/-- The bytes of an instruction: the code of R92 and the operands, or the wire format of R94 to R106. -/
def encode : Instr → Bytes
  | .sb9600Crc s => 0x10#8 :: Machine.seqBytes s
  | .sbepChecksum s => 0x11#8 :: Machine.seqBytes s
  | .write s => 0x20#8 :: Machine.seqBytes s
  | .read n => 0x21#8 :: Machine.natBytes n
  | .avail => [0x22#8]
  | .flushIn => [0x23#8]
  | .flushOut => [0x24#8]
  | .waitForQuiet d => 0x25#8 :: Machine.natBytes d
  | .setBusy v => [0x26#8, v]
  | .isBusy => [0x27#8]
  | .setBaud r => 0x28#8 :: Machine.natBytes r
  | .sb9600Send a s v o => [0x30#8, a, s, v, o]
  | .sb9600Check f0 f1 f2 f3 f4 => [0x31#8, f0, f1, f2, f3, f4]
  | .sbepEnter => [0x40#8]
  | .sbepLeave => [0x41#8]
  | .sbepSend opcode data => 0x42#8 :: opcode :: Machine.seqBytes data
  | .sbepReceive => [0x43#8]
  | .boot => [0x60#8]
  | .sb9600Frame a s v o c => [a, s, v, o, c]
  | .sbepHeaderA o l => [Machine.packNibbles o l]
  | .sbepHeaderB l o => [Machine.packNibbles 0xF#4 l, o]
  | .sbepHeaderC o p l => [Machine.packNibbles o 0xF#4, p, l]
  | .sbepHeaderD o l => [0xFF#8, o, l]
  | .ack => [Machine.ackByte]
  | .trigger => [Machine.triggerByte]
  | .triggerResponse => [Machine.triggerByte, Machine.triggerAckByte]
  | .block data => data
  | .ready pattern => pattern
  | .finalAck => [Machine.ackByte]

/-- The bytes of a table word, the table's highest bits first: R94 numbers a format's byte 0 in its highest bits
(notes/assumptions/6.md). -/
def tableBytes (nbits w : Nat) : Bytes :=
  (List.range (nbits / 8)).map fun i => BitVec.ofNat 8 (w / 2 ^ (8 * (nbits / 8 - 1 - i)))

/-- The operand bytes of zeros that follow a command code in a table word. -/
def zeroOperands : Bytes := Machine.zeros 8

/-- Whether a table word is a command: eight bits that are a code of R92. -/
def tableWordIsCommand (nbits w : Nat) : Bool :=
  match nbits, decodeCommand (tableBytes nbits w ++ zeroOperands) with
  | 8, .ok _ _ => true
  | _, _ => false

/-- The instruction the decoder reads from a word of spec/opcode_table.json. -/
def decodeTableWord (nbits w : Nat) : Option Instr :=
  if tableWordIsCommand nbits w then
    match decodeCommand (tableBytes nbits w ++ zeroOperands) with
    | .ok i _ => some i
    | .reject _ => none
  else decodeLine none (tableBytes nbits w)

end Sys2Proof
end

