-- ==== Sys2Proof/Machine/Fetch.lean ====
section
/-! DEFINITION. How the next instruction is found: at the head of the turns to come, presented by the host or delivered
by the line (notes/assumptions/23.md). -/

namespace Sys2Proof.Machine

/-- The format that the engine expects next in a phase, where it expects one (10_state.md R28, 30_encoding.md R90). -/
def expectedFormat : Phase → Option Format
  | .sbReadback => some .sb9600
  | .epEnterAck => some .ack
  | .epAck => some .ack
  | .epReadback => some .sbep
  | .epRxHdr => some .sbep
  | .btReadyWait => some .ready
  | .btNegotiate => some .trigger
  | .btBlockEcho => some .block
  | .btFinalWait => some .finalAck
  | .idle | .tRead | .tQuiet | .sbWaitFree | .sbXmit | .sbWaitRelease | .epLeaveWait | .epXmit | .epRxExtop
  | .epRxPlaceholder | .epRxExtlen | .epRxPayload | .btPreflight | .btBlockSend => none

/-- What stands at the head of the turns to come. -/
inductive Fetched where
  /-- An instruction, and the state without its turn. -/
  | instr (i : Instr) (s : State)
  /-- No instruction: the state after the turn. -/
  | other (s : State)
  /-- The host touches the image while an operation runs. -/
  | hostFault
deriving DecidableEq, Repr

/-- The head of the turns to come is taken: a command that the host presents is decoded at the command port, a burst on
the line as a wire format; a code that is no command is refused and changes nothing (R93); a burst that is no format
arrives as bytes; any other turn is the turn itself. With no turn left the engine takes its own. -/
def fetch (s : State) : Fetched :=
  match s.sched with
  | [] => .other (engineTurn s)
  | .host bs :: ts =>
    match decode .command bs with
    | .ok i _ => .instr i { s with sched := ts }
    | .reject _ => .other { s with sched := ts }
  | .line bs :: ts =>
    match decodeLine (expectedFormat s.phase) bs with
    | some i => .instr i { s with sched := ts }
    | none => .other (deliver bs { s with sched := ts })
  | .load image :: ts =>
    if s.phase = .idle then .other (loadImage image { s with sched := ts }) else .hostFault
  | .unload :: ts => if s.phase = .idle then .other (unloadImage { s with sched := ts }) else .hostFault
  | .reset :: ts => .other (applyReset { s with sched := ts })
  | .engine :: ts => .other (engineTurn { s with sched := ts })
  | .env e :: ts => .other (envTurn e { s with sched := ts })
  | .deadline :: ts => .other (deadlineTurn { s with sched := ts })

/-- The turn that brings a table word to the machine: the host's for a command, the line's for a wire format. -/
def wordTurn (nbits w : Nat) : Turn :=
  if tableWordIsCommand nbits w then .host (tableBytes nbits w ++ zeroOperands) else .line (tableBytes nbits w)

end Sys2Proof.Machine
end

