-- ==== Sys2Proof/Machine/Step.lean ====
section
/-! DEFINITION. One step: the head of the turns to come is taken, and an instruction found there is executed. -/

namespace Sys2Proof.Machine

/-- One step of the machine, with its three outcomes. -/
def step (s : State) : Host.Outcome State Fault Refusal :=
  match fetch s with
  | .instr i s' => exec i s'
  | .other s' => .next s'
  | .hostFault => .fault .imageChangedDuringOperation

/-- The state with a table word as the very next turn. -/
def State.withFetchWord (s : State) (nbits w : Nat) : State := { s with sched := wordTurn nbits w :: s.sched }

end Sys2Proof.Machine
end

