-- ==== Sys2Proof/WellFormed.lean ====
section
/-! DEFINITION. Which instructions are well-formed: operands in the ranges of 30_encoding.md R93 and R202, and wire
formats that satisfy the constraints of R98, R103 and R104. -/

namespace Sys2Proof

/-- The operand checks of the command port (R93) and the constraints the table puts on a wire format's fields. -/
def Instr.wellFormed : Instr → Bool
  | .sb9600Crc _ => true
  | .sbepChecksum _ => true
  | .write _ => true
  | .read _ => true
  | .avail => true
  | .flushIn => true
  | .flushOut => true
  | .waitForQuiet _ => true
  | .setBusy v => Machine.bitLegal v
  | .isBusy => true
  | .setBaud r => Machine.rateLegal r
  | .sb9600Send _ _ _ _ => true
  | .sb9600Check _ _ _ _ _ => true
  | .sbepEnter => true
  | .sbepLeave => true
  | .sbepSend _ data => Machine.dataLegal data
  | .sbepReceive => true
  | .boot => true
  | .sb9600Frame _ _ _ _ _ => true
  | .sbepHeaderA o l => o != 0xF#4 && l != 0xF#4
  | .sbepHeaderB l _ => l != 0xF#4
  | .sbepHeaderC o _ _ => o != 0xF#4
  | .sbepHeaderD _ _ => true
  | .ack => true
  | .trigger => true
  | .triggerResponse => true
  | .block data => data.length == 8
  | .ready pattern => pattern.length == 8
  | .finalAck => true

end Sys2Proof
end

