-- ==== Sys2Proof/Safety.lean ====
section
/-! DEFINITION. The terms in which claims speak: what a legal configuration and a consistent state are, which status an
operation can end with (60_exceptions.md R272), what a trace says, and the turns of an honest line and an honest peer
(20_memory.md R79). Nothing here changes what the machine does. -/

namespace Sys2Proof.Safety

open Sys2Proof.Machine

/-- A configuration the spec admits (00_scope.md R8, R9, R10, R13). -/
def configOk (c : Config) : Prop :=
  c.table.length = 256
  ∧ (sb9600Crc c.table [0x05, 0x60, 0x01, 0x57] = 0x41 ∧ sb9600Crc c.table [0x05, 0x60, 0x00, 0x57] = 0x28
    ∧ sb9600Crc c.table [0x05, 0x69, 0x01, 0x57] = 0x8F ∧ sb9600Crc c.table [0x00, 0x12, 0x05, 0x06] = 0x39)
  ∧ (readyZeros ∈ c.readySet ∧ readyAlternating ∈ c.readySet ∧ readyNonMember ∉ c.readySet)
  ∧ (∀ p ∈ c.readySet, p.length = 8)
  ∧ (c.bootBaud = 2212 ∨ c.bootBaud = 2400)
  ∧ 1 ≤ c.quietChunk

/-- `CURSOR` on the grid `0x80 + 8k`, `k` at most 496 (10_state.md R29). -/
def cursorOk (c : BitVec 13) : Prop := ∃ k ≤ 496, c.toNat = 0x80 + 8 * k

/-- The working registers within their capacities, and their lengths in their length registers (R24, R25, R26). -/
def workingOk (w : Working) : Prop :=
  (w.data.length ≤ 254 ∧ w.dlen.toNat = w.data.length)
  ∧ (w.txbuf.length ≤ 258 ∧ w.txlen.toNat = w.txbuf.length)
  ∧ (w.rxbuf.length ≤ 258 ∧ w.rxlen.toNat = w.rxbuf.length)
  ∧ w.blk.length = 8 ∧ w.echo.length = 16 ∧ w.rdy.length = 8

/-- The phases of `BOOT` after preflight, in which the image is latched (R232). -/
def pastPreflight : Phase → Bool
  | .btReadyWait | .btNegotiate | .btBlockSend | .btBlockEcho | .btFinalWait => true
  | .idle | .tRead | .tQuiet | .sbWaitFree | .sbXmit | .sbReadback | .sbWaitRelease | .epEnterAck | .epLeaveWait
  | .epXmit | .epReadback | .epAck | .epRxHdr | .epRxExtop | .epRxPlaceholder | .epRxExtlen | .epRxPayload
  | .btPreflight => false

/-- The session exists exactly while `BOOT` runs, and holds the rate, the ready patterns, and after preflight the image
of the image memory (R43, R75, R232). -/
def sessionOk (s : State) : Prop :=
  (inBoot s.phase = false → s.session = none)
  ∧ (inBoot s.phase = true → ∃ x, s.session = some x ∧ x.baud = s.cfg.bootBaud ∧ x.readySet = s.cfg.readySet
      ∧ (pastPreflight s.phase = false → x.bootImage = none)
      ∧ (pastPreflight s.phase = true →
          x.bootImage = some (memRead s.img s.imgLen.toNat 0 s.imgLen.toNat) ∧ s.imgValid = true
          ∧ s.imgLen.toNat ≤ 4096))
  ∧ (s.phase = .btBlockSend ∨ s.phase = .btBlockEcho → s.cursor.toNat < (sessionImage s).length)

/-- The header bytes `SBEP_RECEIVE` has read when it is in each of its phases (R99, R203). -/
def receiveOk (s : State) : Prop :=
  (s.phase = .epRxExtop → s.w.rxbuf.length = 1 ∧ opcodeExtended (s.w.rxbuf.getD 0 0) = true)
  ∧ (s.phase = .epRxPlaceholder →
      s.w.rxbuf.length = 1 ∧ opcodeExtended (s.w.rxbuf.getD 0 0) = false ∧ lengthExtended (s.w.rxbuf.getD 0 0) = true)
  ∧ (s.phase = .epRxExtlen → s.w.rxbuf.length = 2 ∧ lengthExtended (s.w.rxbuf.getD 0 0) = true)
  ∧ (s.phase = .epRxPayload → s.w.rxbuf.length = headerLen (s.w.rxbuf.getD 0 0))

/-- Who holds BUSY in the phases whose rules say so (42_sb9600.md R183, 43_sbep.md R206, R207). -/
def busyOk (s : State) : Prop :=
  (s.phase = .sbReadback ∨ s.phase = .epEnterAck → s.busyOut = true)
  ∧ (s.phase = .sbWaitRelease ∨ s.phase = .epLeaveWait → s.busyOut = false)

/-- The frame invariant of R22 while `SB9600_SEND` runs. -/
def frameOk (s : State) : Prop :=
  s.phase = .sbWaitFree ∨ s.phase = .sbXmit ∨ s.phase = .sbReadback ∨ s.phase = .sbWaitRelease →
    frameBytes s.w.frame
      = sb9600Frame s.cfg.table s.w.frame.address s.w.frame.subaddress s.w.frame.value s.w.frame.operation

/-- `TIMEOUT` is `READ_TIMEOUT` unless `WAIT_FOR_QUIET` is running, which keeps the copy (R37). -/
def timeoutOk (s : State) : Prop :=
  (s.phase ≠ .tQuiet → s.timeout = s.cfg.readTimeout) ∧ (s.phase = .tQuiet → s.savedTimeout = s.cfg.readTimeout)

/-- The bytes that a trace's `Tx` events carry. -/
def txBytes (es : List Event) : Bytes :=
  es.flatMap fun e => match e with
    | .tx s => s
    | .baud _ | .busy _ | .rx _ | .drop _ | .log _ | .ended _ => []

/-- What the trace says was written is on the wire, last (R63, R70). -/
def wireOk (s : State) : Prop := ∃ before, s.wire = before ++ txBytes s.trace

/-- What the phase says of the end of the trace, of the wire and of BUSY, and what the status of an ended operation says
of the end of the trace (R34, R70, R183, R184, R206 to R209, R252, R255, R256). -/
structure TraceOk (s : State) : Prop where
  sbReadback : s.phase = .sbReadback → s.busyOut = true ∧ frameBytes s.w.frame <:+ s.wire
    ∧ ∃ d, [.busy true, .drop d, .tx (frameBytes s.w.frame)] <:+ s.trace
  sbWaitRelease : s.phase = .sbWaitRelease → s.busyOut = false ∧ frameBytes s.w.frame <:+ s.wire
    ∧ ∃ d, [.busy true, .drop d, .tx (frameBytes s.w.frame), .rx (frameBytes s.w.frame), .busy false] <:+ s.trace
  epEnterAck : s.phase = .epEnterAck → s.busyOut = true ∧ [.busy true] <:+ s.trace
  epLeaveWait : s.phase = .epLeaveWait → s.busyOut = false ∧ [.busy false] <:+ s.trace
  epXmit : s.phase = .epXmit → s.w.data.length ≤ 254
  epReadback : s.phase = .epReadback → s.w.txlen.toNat = s.w.txbuf.length ∧ s.w.txbuf <:+ s.wire
    ∧ ∃ d, [.drop d, .tx s.w.txbuf] <:+ s.trace
  epAck : s.phase = .epAck → s.w.txbuf <:+ s.wire ∧ ∃ d, [.drop d, .tx s.w.txbuf, .rx s.w.txbuf] <:+ s.trace
  btBlockEcho : s.phase = .btBlockEcho → s.w.blk <:+ s.wire ∧ [.tx s.w.blk] <:+ s.trace
  btFinalWait : s.phase = .btFinalWait → s.baud = 115200 ∧ ∃ d, [.baud 115200, .drop d] <:+ s.trace
  idle : s.phase = .idle → s.trace = [] ∨ [.ended s.status] <:+ s.trace
  transmitMismatch : s.phase = .idle → s.status = .transmitMismatch → ∃ d f r, r ≠ f ∧ r.length ≤ f.length
    ∧ [.drop d, .tx f, .rx r, .ended .transmitMismatch] <:+ s.trace
  notAcknowledged : s.phase = .idle → s.status = .notAcknowledged → ∃ r, r ≠ [ackByte] ∧ r.length ≤ 1
    ∧ ([.busy true, .rx r, .busy false, .ended .notAcknowledged] <:+ s.trace
      ∨ ∃ d f, [.drop d, .tx f, .rx f, .rx r, .ended .notAcknowledged] <:+ s.trace)
  echoMismatch : s.phase = .idle → s.status = .echoMismatch → ∃ b r, r ≠ b ++ b
    ∧ [.tx b, .rx r, .ended .echoMismatch] <:+ s.trace
  bootstrapFailed : s.phase = .idle → s.status = .bootstrapFailed → ∃ d r, r ≠ [ackByte]
    ∧ [.baud 115200, .drop d, .rx r, .ended .bootstrapFailed] <:+ s.trace

/-- The consistency of a state: what holds at reset and every step keeps. -/
structure Inv (s : State) : Prop where
  config : configOk s.cfg
  baud : s.baud ∈ legalRates
  cursor : cursorOk s.cursor
  memory : s.img.wf = true
  working : workingOk s.w
  session : sessionOk s
  receive : receiveOk s
  busy : busyOk s
  frame : frameOk s
  timeout : timeoutOk s
  wire : wireOk s

/-- The statuses that 60_exceptions.md R272 admits for each command; a wire format ends no operation of its own. -/
def statusPossible : Instr → Status → Bool
  | .sb9600Send _ _ _ _, k => k == .ok || k == .transmitMismatch
  | .sbepEnter, k => k == .ok || k == .notAcknowledged
  | .sbepSend _ _, k => k == .ok || k == .transmitMismatch || k == .notAcknowledged
  | .sbepReceive, k => k == .ok || k == .checksumFailure
  | .boot, k => k == .ok || k == .echoMismatch || k == .bootloaderFileError || k == .bootstrapFailed
  | .sb9600Crc _, k | .sbepChecksum _, k | .write _, k | .read _, k | .avail, k | .flushIn, k | .flushOut, k
  | .waitForQuiet _, k | .setBusy _, k | .isBusy, k | .setBaud _, k | .sb9600Check _ _ _ _ _, k | .sbepLeave, k
  | .sb9600Frame _ _ _ _ _, k | .sbepHeaderA _ _, k | .sbepHeaderB _ _, k | .sbepHeaderC _ _ _, k
  | .sbepHeaderD _ _, k | .ack, k | .trigger, k | .triggerResponse, k | .block _, k | .ready _, k | .finalAck, k =>
    k == .ok

/-- The last column of R272: which commands may hold. -/
def mayHold : Instr → Bool
  | .read _ | .waitForQuiet _ | .sb9600Send _ _ _ _ | .sbepEnter | .sbepLeave | .sbepSend _ _ | .sbepReceive
  | .boot => true
  | .sb9600Crc _ | .sbepChecksum _ | .write _ | .avail | .flushIn | .flushOut | .setBusy _ | .isBusy | .setBaud _
  | .sb9600Check _ _ _ _ _ | .sb9600Frame _ _ _ _ _ | .sbepHeaderA _ _ | .sbepHeaderB _ _ | .sbepHeaderC _ _ _
  | .sbepHeaderD _ _ | .ack | .trigger | .triggerResponse | .block _ | .ready _ | .finalAck => false

/-- The phases of `SBEP_RECEIVE` (R28). -/
def inReceive : Phase → Bool
  | .epRxHdr | .epRxExtop | .epRxPlaceholder | .epRxExtlen | .epRxPayload => true
  | .idle | .tRead | .tQuiet | .sbWaitFree | .sbXmit | .sbReadback | .sbWaitRelease | .epEnterAck | .epLeaveWait
  | .epXmit | .epReadback | .epAck | .btPreflight | .btReadyWait | .btNegotiate | .btBlockSend | .btBlockEcho
  | .btFinalWait => false

/-- The command codes of 30_encoding.md R92. -/
def commandCodes : List Nat :=
  [0x10, 0x11, 0x20, 0x21, 0x22, 0x23, 0x24, 0x25, 0x26, 0x27, 0x28, 0x30, 0x31, 0x40, 0x41, 0x42, 0x43, 0x60]

/-- Every `Baud` of a trace is immediately followed by a `Drop` (20_memory.md R72 item 3). -/
def baudThenDrop : List Event → Bool
  | [] => true
  | .baud _ :: .drop _ :: es => baudThenDrop es
  | .baud _ :: _ => false
  | .busy _ :: es | .tx _ :: es | .rx _ :: es | .drop _ :: es | .log _ :: es | .ended _ :: es => baudThenDrop es

/-- The engine holds: its own turn changes nothing (R14, R28). -/
def Holds (s : State) : Prop := engineTurn s = s

/-- The turns in which these bytes arrive, the engine taking no turn between them (R65). -/
def arrivals (bs : Bytes) : List Turn := bs.map fun b => .env (.rx b)

/-- The blocks of an image from an offset on, as many as asked (44_bootstrap.md R250, R251). -/
def blocksFrom (image : Bytes) : Nat → Nat → List Bytes
  | 0, _ => []
  | k + 1, c => blockAt image c :: blocksFrom image k (c + 8)

/-- How many blocks an image of a length has (R250). -/
def blockCount (len : Nat) : Nat := (len - 0x80 + 7) / 8

/-- All the blocks of an image (R250). -/
def blocksOf (image : Bytes) : List Bytes := blocksFrom image (blockCount image.length) 0x80

/-- An MCU that answers every block with its echo, twice over (R79 `McuEcho`, R252). -/
def honestEchoes (blocks : List Bytes) : List Turn := blocks.flatMap fun b => [.engine, .line (b ++ b)]

/-- An MCU that is ready at once, answers the trigger, echoes every block and acknowledges the end (R79 `McuReady`,
`McuTrigger`, `McuEcho`, `McuDone`). -/
def honestBoot (pattern image : Bytes) : List Turn :=
  [.engine, .line pattern, .line [triggerByte, triggerAckByte]] ++ honestEchoes (blocksOf image) ++ [.line [ackByte]]

/-- The trace of the block transfer of a successful `BOOT` (R259). -/
def blockEvents (blocks : List Bytes) : List Event := blocks.flatMap fun b => [.tx b, .rx (b ++ b)]

end Sys2Proof.Safety
end

