-- ==== Sys2Proof/Certificates/Slice0/Obligations.lean ====
section
/-! DEFINITION. The statements for the provers. Each docstring names the rule of spec/ the statement formalises, the spec's
own decisions (D<n> of spec/92_eei_decisions.md) and inferences it rests on, and the model's (log <n> is
notes/assumptions/<n>.md). A free value stands under an existential, so no statement rests on one. -/

open Sys2Proof Sys2Proof.Machine Sys2Proof.Safety

/-- R91, R92 and notes/assumptions/5.md: the command port reads back every command from its code and operand bytes, and
leaves what follows. Rests on decisions D3, D31 of the spec and the model's choice in log 5. -/
def Obligations.CommandDecodesFromItsEncoding : Prop :=
  ∀ (i : Instr) (rest : Bytes), i.port = .command → decode .command (encode i ++ rest) = .ok i rest

/-- R94, R98, R102 to R106: a well-formed wire format is read back from its bytes, whole. -/
def Obligations.WireFormatDecodesFromItsEncoding : Prop :=
  ∀ (i : Instr) (f : Format), i.port = .wire f → i.wellFormed = true → decode (.wire f) (encode i) = .ok i []

/-- R98, R99: whatever bytes a header is read from, the form read is well-formed, is as long as byte 0 announces, and
is made of exactly those bytes. -/
def Obligations.SbepHeaderIsMadeOfTheBytesRead : Prop :=
  ∀ (bs rest : Bytes) (i : Instr), decode (.wire .sbep) bs = .ok i rest →
    i.wellFormed = true ∧ encode i ++ rest = bs ∧ (encode i).length = headerLen (bs.getD 0 0)

/-- R92, R94, R98, R102, R106: words written out from the spec's encodings decode to the rows they stand for. Rests on
decision D3 of the spec and the model's choice in log 6. -/
def Obligations.TableWordsDecodeToTheirRows : Prop :=
  decodeTableWord 8 0x10 = some (.sb9600Crc []) ∧ decodeTableWord 8 0x21 = some (.read 0)
  ∧ decodeTableWord 8 0x26 = some (.setBusy 0) ∧ decodeTableWord 8 0x30 = some (.sb9600Send 0 0 0 0)
  ∧ decodeTableWord 8 0x42 = some (.sbepSend 0 []) ∧ decodeTableWord 8 0x60 = some .boot
  ∧ decodeTableWord 40 0x0560015741 = some (.sb9600Frame 0x05 0x60 0x01 0x57 0x41)
  ∧ decodeTableWord 8 0x23 = some .flushIn ∧ decodeTableWord 8 0x3E = some (.sbepHeaderA 0x3 0xE)
  ∧ decodeTableWord 16 0xF217 = some (.sbepHeaderB 0x2 0x17)
  ∧ decodeTableWord 24 0x3F000F = some (.sbepHeaderC 0x3 0x00 0x0F)
  ∧ decodeTableWord 24 0xFF0F0F = some (.sbepHeaderD 0x0F 0x0F)
  ∧ decodeTableWord 8 0x50 = some .ack ∧ decodeTableWord 8 0xFD = some .trigger
  ∧ decodeTableWord 16 0xFDFF = some .triggerResponse

/-- R93: a command code that is not in R92, and a command whose operands are out of range, change nothing. Rests on
decisions D3, D30 of the spec and the model's choice in log 7. -/
def Obligations.RefusedCommandsChangeNothing : Prop :=
  (∀ (s : State) (code : Byte) (bs : Bytes) (ts : List Turn), code.toNat ∉ commandCodes →
    s.sched = .host (code :: bs) :: ts → step s = .next { s with sched := ts })
  ∧ (∀ (i : Instr) (s : State), i.port = .command → i.wellFormed = false → exec i s = .next s)
  ∧ (∀ v : Byte, (Instr.setBusy v).wellFormed = false ↔ 1 < v.toNat)
  ∧ (∀ r : Nat, (Instr.setBaud r).wellFormed = false ↔ r ∉ [460, 2212, 2400, 9600, 115200])
  ∧ (∀ (o : Byte) (d : Bytes), (Instr.sbepSend o d).wellFormed = false ↔ 254 < d.length)

/-- R91, R170: a command presented while an operation runs changes nothing. Rests on decisions D3, D31 of the spec and
the model's choice in log 7. -/
def Obligations.CommandsWhileBusyChangeNothing : Prop :=
  ∀ (i : Instr) (s : State), i.port = .command → s.phase ≠ .idle → exec i s = .next s

/-- A step executes the instruction that its next turn brings; what step adds is that the turn is taken. A table word
placed before the idle machine is executed by the very next step. Rests on the model's choices in log 1, 2, 4, 23. -/
def Obligations.StepRunsTheDecodedInstruction : Prop :=
  (∀ (s : State) (bs rest : Bytes) (ts : List Turn) (i : Instr), s.sched = .host bs :: ts →
    decode .command bs = .ok i rest → step s = exec i { s with sched := ts })
  ∧ (∀ (s : State) (bs : Bytes) (ts : List Turn) (i : Instr), s.sched = .line bs :: ts →
    decodeLine (expectedFormat s.phase) bs = some i → step s = exec i { s with sched := ts })
  ∧ (∀ (s : State) (nbits w : Nat) (i : Instr), s.phase = .idle → decodeTableWord nbits w = some i →
    step (s.withFetchWord nbits w) = exec i s)

/-- R282, R331, 93 row 20: every instruction answers a next state in every state, and a step stops only where the host
touches the image while an operation runs. Rests on the model's choice in log 18. -/
def Obligations.OnlyTheHostsFaultStopsAStep : Prop :=
  (∀ (i : Instr) (s : State), ∃ t, exec i s = .next t)
  ∧ (∀ s : State, (∃ t, step s = .next t)
      ∨ (step s = .fault .imageChangedDuringOperation ∧ s.phase ≠ .idle
          ∧ ∃ ts, s.sched = .unload :: ts ∨ ∃ image, s.sched = .load image :: ts))

/-- R136: the four known vectors, on the table of the machine after reset. -/
def Obligations.CrcKnownVectors : Prop :=
  sb9600Crc State.reset.cfg.table [0x05, 0x60, 0x01, 0x57] = 0x41
  ∧ sb9600Crc State.reset.cfg.table [0x05, 0x60, 0x00, 0x57] = 0x28
  ∧ sb9600Crc State.reset.cfg.table [0x05, 0x69, 0x01, 0x57] = 0x8F
  ∧ sb9600Crc State.reset.cfg.table [0x00, 0x12, 0x05, 0x06] = 0x39

/-- R133, R134: the printed table is the one the loop generates, and one look-up is the bit-serial circuit. Rests on
decision D4 of the spec and the model's choice in log 21. -/
def Obligations.CrcTableIsTheGeneratedOne : Prop :=
  sb9600Table = generatedTable ∧ ∀ acc b : Byte, crcStep sb9600Table acc b = crcShift8 (acc ^^^ b)

/-- R135: leading zeros, the permutation and what follows from it, the residue law, linearity. Rests on decision D4 of
the spec and the model's choice in log 21. -/
def Obligations.CrcLawsOfTheTable : Prop :=
  (sb9600Table.getD 0 0x00 = 0x00 ∧ ∀ s : Bytes, sb9600Crc sb9600Table (0x00 :: s) = sb9600Crc sb9600Table s)
  ∧ (sb9600Table.length = 256 ∧ sb9600Table.Nodup
    ∧ (∀ (p : Bytes) (c : Byte), ∃ x : Byte, sb9600Crc sb9600Table (p ++ [x]) = c
        ∧ ∀ y : Byte, sb9600Crc sb9600Table (p ++ [y]) = c → y = x)
    ∧ (∀ (p q : Bytes) (x y : Byte), x ≠ y →
        sb9600Crc sb9600Table (p ++ x :: q) ≠ sb9600Crc sb9600Table (p ++ y :: q)))
  ∧ ((∀ s : Bytes, sb9600Crc sb9600Table (s ++ [sb9600Crc sb9600Table s]) = 0x00)
    ∧ ∀ f0 f1 f2 f3 f4 : Byte,
        sb9600Valid sb9600Table f0 f1 f2 f3 f4 = true ↔ sb9600Crc sb9600Table [f0, f1, f2, f3, f4] = 0x00)
  ∧ (∀ s t : Bytes, s.length = t.length →
      sb9600Crc sb9600Table (List.zipWith (fun a b => a ^^^ b) s t)
        = sb9600Crc sb9600Table s ^^^ sb9600Crc sb9600Table t)

/-- R138: a frame is valid exactly when its bytes sum to 0xFF modulo 256, the round trip, and that the checksum byte
that makes a sequence valid is unique. -/
def Obligations.SbepChecksumValidityAndRoundTrip : Prop :=
  (∀ s : Bytes, sbepChecksum s = 0x00 ↔ (s.map BitVec.toNat).sum % 256 = 0xFF)
  ∧ (∀ s : Bytes, sbepChecksum (s ++ [sbepChecksum s]) = 0x00)
  ∧ (∀ (s : Bytes) (c : Byte), sbepChecksum (s ++ [c]) = 0x00 → c = sbepChecksum s)

/-- R187: checking the frame that was built from four bytes gives validity and the four bytes back. Rests on decision
D26 of the spec and the model's choice in log 15. -/
def Obligations.FrameCheckRoundTrip : Prop :=
  ∀ (s : State) (a b v o f0 f1 f2 f3 f4 : Byte), s.phase = .idle →
    sb9600Frame s.cfg.table a b v o = [f0, f1, f2, f3, f4] →
    ∃ t, exec (.sb9600Check f0 f1 f2 f3 f4) s = .next t ∧ t.result = .checked true a b v o

/-- R97, R98: the bytes of the four header forms, as numbers. -/
def Obligations.SbepHeaderForms : Prop :=
  ∀ (opcode : Byte) (dataLen : Nat), 1 ≤ dataLen → dataLen ≤ 255 →
    (opcode.toNat < 0xF → dataLen < 0xF →
      (sbepHeader opcode dataLen).map BitVec.toNat = [16 * opcode.toNat + dataLen])
    ∧ (0xF ≤ opcode.toNat → dataLen < 0xF →
      (sbepHeader opcode dataLen).map BitVec.toNat = [0xF0 + dataLen, opcode.toNat])
    ∧ (opcode.toNat < 0xF → 0xF ≤ dataLen →
      (sbepHeader opcode dataLen).map BitVec.toNat = [16 * opcode.toNat + 0xF, 0, dataLen])
    ∧ (0xF ≤ opcode.toNat → 0xF ≤ dataLen →
      (sbepHeader opcode dataLen).map BitVec.toNat = [0xFF, opcode.toNat, dataLen])

/-- R204: parsing a built frame recovers the opcode and the data, consuming exactly the frame; the short and the
extended ranges of the header; the converse does not hold. Rests on the spec's own inference of R204. -/
def Obligations.SbepFrameParsesBack : Prop :=
  (∀ (opcode : Byte) (data rest : Bytes), data.length ≤ 254 →
    sbepParse (sbepFrame opcode data ++ rest) = .frame opcode data rest)
  ∧ (∀ (opcode : Byte) (data : Bytes), opcode.toNat < 15 → data.length ≤ 13 →
      (sbepHeader opcode (data.length + 1)).length = 1)
  ∧ (∀ (opcode : Byte) (data : Bytes), 15 ≤ opcode.toNat ∨ 14 ≤ data.length →
      2 ≤ (sbepHeader opcode (data.length + 1)).length)
  ∧ (∃ (s : Bytes) (opcode : Byte) (data : Bytes), sbepParse s = .frame opcode data [] ∧ sbepFrame opcode data ≠ s)

/-- R101: the received forms of its table. Rests on decisions D14, D15 of the spec. -/
def Obligations.NonCanonicalSbepForms : Prop :=
  sbepParse [0xF2, 0x05, 0x01, 0x07] = .frame 0x05 [0x01] []
  ∧ sbepParse [0xFF, 0x03, 0x02, 0x55, 0xA6] = .frame 0x03 [0x55] []
  ∧ sbepParse [0x1F, 0x77, 0x02, 0xAA, 0xBD] = .frame 0x01 [0xAA] []
  ∧ sbepParse [0x10] = .bad [] ∧ sbepParse [0x0F, 0xF0, 0x00] = .bad []

/-- R250, R251: every block has eight bytes; the last one is the rest of the image and the padding the law gives. Rests
on decision D18 of the spec. -/
def Obligations.LastBlockIsPaddedToEight : Prop :=
  ∀ image : Bytes, 0x80 < image.length →
    (∀ b ∈ blocksOf image, b.length = 8)
    ∧ (blocksOf image).length = (image.length - 0x80 + 7) / 8
    ∧ (blocksOf image).flatten
        = image.drop 0x80 ++ zeros (if (image.length - 0x80) % 8 = 0 then 0 else 8 - (image.length - 0x80) % 8)

/-- R131, R137, R186: the pure commands end `OK` with their result; nothing changes but `STATUS`, the result, the trace
and the working registers they used. Rests on decision D26 of the spec and the model's choices in log 13, 15. -/
def Obligations.PureCommandsComplete : Prop :=
  ∀ s : State, s.phase = .idle →
    (∀ bs : Bytes, ∃ a n, exec (.sb9600Crc bs) s = .next { s with
      status := .ok, result := .byte (sb9600Crc s.cfg.table bs), session := none
      w := { s.w with acc := a }, trace := s.trace ++ [.ended .ok], free := n })
    ∧ (∀ bs : Bytes, ∃ a n, exec (.sbepChecksum bs) s = .next { s with
      status := .ok, result := .byte (sbepChecksum bs), session := none
      w := { s.w with acc := a }, trace := s.trace ++ [.ended .ok], free := n })
    ∧ (∀ f0 f1 f2 f3 f4 : Byte, ∃ f a n, exec (.sb9600Check f0 f1 f2 f3 f4) s = .next { s with
      status := .ok, session := none
      result := .checked (sb9600Crc s.cfg.table [f0, f1, f2, f3] == f4) f0 f1 f2 f3
      w := { s.w with frame := f, acc := a }, trace := s.trace ++ [.ended .ok], free := n })

/-- R152, R154, R155, R157, R163: the Transport's commands that never hold. Rests on decision D11 of the spec and the
model's choices in log 15, 16. -/
def Obligations.TransportCommandsComplete : Prop :=
  ∀ s : State, s.phase = .idle →
    (∀ bs : Bytes, ∃ n, exec (.write bs) s = .next { s with
      status := .ok, result := .none, session := none, wire := s.wire ++ bs
      trace := s.trace ++ [.tx bs, .ended .ok], free := n })
    ∧ (∃ n, exec .avail s = .next { s with
      status := .ok, result := .count s.rxq.length, session := none, trace := s.trace ++ [.ended .ok], free := n })
    ∧ (∃ n, exec .flushIn s = .next { s with
      status := .ok, result := .none, session := none, rxq := []
      trace := s.trace ++ [.drop s.rxq, .ended .ok], free := n })
    ∧ (∃ n, exec .flushOut s = .next { s with
      status := .ok, result := .none, session := none, trace := s.trace ++ [.ended .ok], free := n })
    ∧ (∃ n, exec .isBusy s = .next { s with
      status := .ok, result := .bit s.busyIn, session := none, trace := s.trace ++ [.ended .ok], free := n })

/-- R162, R165: `SET_BUSY` drives the line to its bit, even to the value already held; `SET_BAUD` changes the rate and
does not flush. Rests on decision D2 of the spec and the model's choice in log 15. -/
def Obligations.ControlLineCommandsComplete : Prop :=
  ∀ s : State, s.phase = .idle →
    (∀ v : Byte, v = 0 ∨ v = 1 → ∃ n, exec (.setBusy v) s = .next { s with
      status := .ok, result := .none, session := none, busyOut := decide (v = 1)
      trace := s.trace ++ [.busy (decide (v = 1)), .ended .ok], free := n })
    ∧ (∀ r ∈ [460, 2212, 2400, 9600, 115200], ∃ n, exec (.setBaud r) s = .next { s with
      status := .ok, result := .none, session := none, baud := r
      trace := s.trace ++ [.baud r, .ended .ok], free := n })

/-- R153, R66: `READ n` takes the first `n` bytes once they are there, all there is when the timeout fires before, and
holds otherwise. Rests on decision D12 of the spec and the model's choices in log 2, 4, 15. -/
def Obligations.ReadReturnsWhatArrived : Prop :=
  ∀ (s : State) (n : Nat) (arrived : Bytes) (ts : List Turn), s.phase = .idle →
    (n ≤ s.rxq.length + arrived.length → s.sched = arrivals arrived ++ .engine :: ts →
      ∃ f, exec (.read n) s = .next { s with
        status := .ok, result := .bytes ((s.rxq ++ arrived).take n), session := none
        rxq := (s.rxq ++ arrived).drop n, w := { s.w with readCount := n }
        trace := s.trace ++ [.rx ((s.rxq ++ arrived).take n), .ended .ok], sched := ts, free := f })
    ∧ (s.rxq.length + arrived.length < n → s.sched = arrivals arrived ++ .env .timeout :: ts →
      ∃ f, exec (.read n) s = .next { s with
        status := .ok, result := .bytes (s.rxq ++ arrived), session := none
        rxq := [], w := { s.w with readCount := n }
        trace := s.trace ++ [.rx (s.rxq ++ arrived), .ended .ok], sched := ts, free := f })
    ∧ (s.rxq.length + arrived.length < n → s.sched = arrivals arrived →
      exec (.read n) s = .next { s with
        phase := .tRead, rxq := s.rxq ++ arrived, w := { s.w with readCount := n }, sched := [] })

/-- R160: on a line that falls silent the drain ends, having dropped exactly what was queued, with `TIMEOUT` as it was.
`SAVED_TIMEOUT` keeps the copy, which is the model's choice. Rests on decision D9 of the spec and the model's choices
in log 2, 4, 15, 29. -/
def Obligations.WaitForQuietCompletes : Prop :=
  ∀ (s : State) (d : Nat), s.phase = .idle → 1 ≤ s.cfg.quietChunk →
    ∃ turns : List Turn, (∀ x ∈ turns, x = .engine ∨ x = .env .timeout) ∧
      ∀ ts : List Turn, ∃ (chunks : List Bytes) (n : Nat), chunks.flatten = s.rxq ∧
        exec (.waitForQuiet d) { s with sched := turns ++ ts } = .next { s with
          status := .ok, result := .none, session := none, rxq := [], savedTimeout := s.timeout
          trace := s.trace ++ chunks.map .drop ++ [.drop [], .ended .ok], sched := ts, free := n }

/-- R160, R74, R37: however the agents take turns, a drain that has ended left the queue empty after a read that
returned nothing, and `TIMEOUT` as it was; one that has not is held in `T_QUIET` and keeps the copy. Rests on decision
D9 of the spec and the model's choices in log 3, 4. -/
def Obligations.WaitForQuietLeavesAnEmptyQueue : Prop :=
  ∀ (s t : State) (d : Nat), s.phase = .idle → 1 ≤ s.cfg.quietChunk → s.cfg.deadline = none →
    exec (.waitForQuiet d) s = .next t →
    (t.phase = .idle ∧ t.status = .ok ∧ t.rxq = [] ∧ t.timeout = s.timeout
        ∧ ∃ chunks : List Bytes, t.trace = s.trace ++ chunks.map .drop ++ [.drop [], .ended .ok])
    ∨ (t.phase = .tQuiet ∧ t.status = s.status ∧ t.timeout = d ∧ t.savedTimeout = s.timeout
        ∧ ∃ chunks : List Bytes, t.trace = s.trace ++ chunks.map .drop)

/-- R183, R185: on a free bus with loopback the frame is sent, read back and accepted. Rests on the model's choices in
log 2, 13, 15, 27. -/
def Obligations.Sb9600SendOnAnHonestBus : Prop :=
  ∀ (s : State) (a b v o : Byte) (ts : List Turn), s.phase = .idle → s.busyIn = false →
    s.sched = .engine :: .engine :: .line (sb9600Frame s.cfg.table a b v o) :: .engine :: ts →
    ∃ f c rb rl n, exec (.sb9600Send a b v o) s = .next { s with
      status := .ok, result := .none, session := none, busyOut := false, rxq := []
      wire := s.wire ++ sb9600Frame s.cfg.table a b v o
      w := { s.w with frame := f, acc := c, rxbuf := rb, rxlen := rl }
      trace := s.trace ++ [.busy true, .drop s.rxq, .tx (sb9600Frame s.cfg.table a b v o),
        .rx (sb9600Frame s.cfg.table a b v o), .busy false, .ended .ok]
      sched := ts, free := n }

/-- R167, R168, R183, R184: every way the agents can take turns leads to one of these: before the bus is free nothing is
written; then the frame is sent once; success releases the bus; a mismatch leaves BUSY asserted. While the peer holds
the bus and does not let go of it, the send is held before it asserts BUSY (`ACQUIRE`), and after it has released BUSY
it does not end (`RELEASE`); a free bus ends either hold. Rests on decision D17 of the spec and the model's choices in
log 2, 4, 13, 15. -/
def Obligations.Sb9600SendInEveryEnvironment : Prop :=
  (∀ (s t : State) (a b v o : Byte), s.phase = .idle → s.cfg.deadline = none →
      exec (.sb9600Send a b v o) s = .next t →
      ((t.phase = .sbWaitFree ∨ t.phase = .sbXmit) ∧ t.status = s.status ∧ t.busyOut = s.busyOut ∧ t.wire = s.wire
          ∧ t.trace = s.trace)
      ∨ (t.wire = s.wire ++ sb9600Frame s.cfg.table a b v o ∧ ∃ d : Bytes,
          (t.phase = .sbReadback ∧ t.status = s.status ∧ t.busyOut = true
            ∧ t.trace = s.trace ++ [.busy true, .drop d, .tx (sb9600Frame s.cfg.table a b v o)])
          ∨ (t.phase = .sbWaitRelease ∧ t.status = s.status ∧ t.busyOut = false
            ∧ t.trace = s.trace ++ [.busy true, .drop d, .tx (sb9600Frame s.cfg.table a b v o),
                .rx (sb9600Frame s.cfg.table a b v o), .busy false])
          ∨ (t.phase = .idle ∧ t.status = .ok ∧ t.busyOut = false
            ∧ t.trace = s.trace ++ [.busy true, .drop d, .tx (sb9600Frame s.cfg.table a b v o),
                .rx (sb9600Frame s.cfg.table a b v o), .busy false, .ended .ok])
          ∨ (t.phase = .idle ∧ t.status = .transmitMismatch ∧ t.busyOut = true
            ∧ ∃ r : Bytes, r ≠ sb9600Frame s.cfg.table a b v o ∧ r.length ≤ 5
              ∧ t.trace = s.trace ++ [.busy true, .drop d, .tx (sb9600Frame s.cfg.table a b v o), .rx r,
                  .ended .transmitMismatch])))
  ∧ (∀ (s t : State) (a b v o : Byte), s.phase = .idle → s.cfg.deadline = none →
      exec (.sb9600Send a b v o) s = .next t → s.busyIn = true → .env (.busy false) ∉ s.sched →
      t.phase = .sbWaitFree ∧ t.busyIn = true ∧ t.status = s.status ∧ t.busyOut = s.busyOut ∧ t.wire = s.wire
        ∧ t.trace = s.trace)
  ∧ (∀ (s : State) (ts : List Turn), s.sched = .engine :: ts →
      (s.busyIn = true → s.phase = .sbWaitFree ∨ s.phase = .sbWaitRelease → step s = .next { s with sched := ts })
      ∧ (s.busyIn = false → s.phase = .sbWaitFree → step s = .next { s with phase := .sbXmit, sched := ts })
      ∧ (s.busyIn = false → s.phase = .sbWaitRelease → ∃ f c rb rl n, step s = .next { s with
          phase := .idle, status := .ok, result := .none, session := none
          w := { s.w with frame := f, acc := c, rxbuf := rb, rxlen := rl }
          trace := s.trace ++ [.ended .ok], sched := ts, free := n }))

/-- R206: `SBEP_ENTER` takes the byte already queued as the answer; in every environment it ends with the mode entered
and BUSY held, or refused and BUSY released, or is still waiting. Rests on the model's choices in log 2, 3, 4, 15. -/
def Obligations.SbepEnterTakesOneByte : Prop :=
  (∀ (s : State) (b : Byte) (rest : Bytes) (ts : List Turn), s.phase = .idle → s.rxq = b :: rest →
    s.sched = .engine :: ts →
    ∃ n, exec .sbepEnter s = .next (if b = 0x50 then
      { s with status := .ok, result := .none, session := none, busyOut := true, sbepMode := true, rxq := rest
               trace := s.trace ++ [.busy true, .rx [0x50], .ended .ok], sched := ts, free := n }
      else
      { s with status := .notAcknowledged, result := .none, session := none, busyOut := false, sbepMode := false
               rxq := rest, sched := ts, free := n
               trace := s.trace ++ [.busy true, .rx [b], .busy false, .ended .notAcknowledged] }))
  ∧ (∀ s t : State, s.phase = .idle → s.cfg.deadline = none → exec .sbepEnter s = .next t →
    t.wire = s.wire ∧
    ((t.phase = .epEnterAck ∧ t.status = s.status ∧ t.busyOut = true ∧ t.sbepMode = s.sbepMode
        ∧ t.trace = s.trace ++ [.busy true])
    ∨ (t.phase = .idle ∧ t.status = .ok ∧ t.busyOut = true ∧ t.sbepMode = true
        ∧ t.trace = s.trace ++ [.busy true, .rx [0x50], .ended .ok])
    ∨ (t.phase = .idle ∧ t.status = .notAcknowledged ∧ t.busyOut = false ∧ t.sbepMode = false
        ∧ ∃ r : Bytes, r ≠ [0x50] ∧ r.length ≤ 1
          ∧ t.trace = s.trace ++ [.busy true, .rx r, .busy false, .ended .notAcknowledged])))

/-- R207: `SBEP_LEAVE` de-asserts BUSY, waits for the peer, and leaves the mode; it reads and writes no byte. Rests on
the model's choices in log 2, 3, 4, 15. -/
def Obligations.SbepLeaveReleasesTheBus : Prop :=
  (∀ (s : State) (ts : List Turn), s.phase = .idle → s.busyIn = false → s.sched = .engine :: ts →
    ∃ n, exec .sbepLeave s = .next { s with
      status := .ok, result := .none, session := none, busyOut := false, sbepMode := false
      trace := s.trace ++ [.busy false, .ended .ok], sched := ts, free := n })
  ∧ (∀ s : State, s.phase = .idle → s.busyIn = true → s.sched = [] →
    exec .sbepLeave s = .next { s with
      phase := .epLeaveWait, busyOut := false, trace := s.trace ++ [.busy false] })
  ∧ (∀ s t : State, s.phase = .idle → s.cfg.deadline = none → exec .sbepLeave s = .next t →
    t.busyOut = false ∧ t.wire = s.wire ∧
    ((t.phase = .epLeaveWait ∧ t.status = s.status ∧ t.sbepMode = s.sbepMode ∧ t.trace = s.trace ++ [.busy false])
    ∨ (t.phase = .idle ∧ t.status = .ok ∧ t.sbepMode = false ∧ t.trace = s.trace ++ [.busy false, .ended .ok])))

/-- R208: with loopback and an acknowledgement the message is sent, read back and accepted. Rests on the model's
choices in log 2, 13, 15, 27. -/
def Obligations.SbepSendOnAnHonestLine : Prop :=
  ∀ (s : State) (opcode : Byte) (data : Bytes) (ts : List Turn), s.phase = .idle → data.length ≤ 254 →
    s.sched = .engine :: .line (sbepFrame opcode data) :: .line [0x50] :: ts →
    ∃ o d dl c tb tl rb rl n, exec (.sbepSend opcode data) s = .next { s with
      status := .ok, result := .none, session := none, rxq := [], wire := s.wire ++ sbepFrame opcode data
      w := { s.w with opcode := o, data := d, dlen := dl, acc := c, txbuf := tb, txlen := tl, rxbuf := rb, rxlen := rl }
      trace := s.trace ++ [.drop s.rxq, .tx (sbepFrame opcode data), .rx (sbepFrame opcode data), .rx [0x50],
        .ended .ok]
      sched := ts, free := n }

/-- R208, R209: every way the agents can take turns leads to one of these; BUSY and the mode are never touched, and
`TransmitMismatch` is tested before the acknowledgement. Rests on the model's choices in log 2, 4. -/
def Obligations.SbepSendInEveryEnvironment : Prop :=
  ∀ (s t : State) (opcode : Byte) (data : Bytes), s.phase = .idle → data.length ≤ 254 → s.cfg.deadline = none →
    exec (.sbepSend opcode data) s = .next t →
    t.busyOut = s.busyOut ∧ t.sbepMode = s.sbepMode ∧
    ((t.phase = .epXmit ∧ t.status = s.status ∧ t.wire = s.wire ∧ t.trace = s.trace)
    ∨ (t.wire = s.wire ++ sbepFrame opcode data ∧ ∃ d : Bytes,
        (t.phase = .epReadback ∧ t.status = s.status ∧ t.trace = s.trace ++ [.drop d, .tx (sbepFrame opcode data)])
        ∨ (t.phase = .epAck ∧ t.status = s.status
          ∧ t.trace = s.trace ++ [.drop d, .tx (sbepFrame opcode data), .rx (sbepFrame opcode data)])
        ∨ (t.phase = .idle ∧ t.status = .ok
          ∧ t.trace = s.trace ++ [.drop d, .tx (sbepFrame opcode data), .rx (sbepFrame opcode data), .rx [0x50],
              .ended .ok])
        ∨ (t.phase = .idle ∧ t.status = .transmitMismatch
          ∧ ∃ r : Bytes, r ≠ sbepFrame opcode data ∧ r.length ≤ (sbepFrame opcode data).length
            ∧ t.trace = s.trace ++ [.drop d, .tx (sbepFrame opcode data), .rx r, .ended .transmitMismatch])
        ∨ (t.phase = .idle ∧ t.status = .notAcknowledged
          ∧ ∃ r : Bytes, r ≠ [0x50] ∧ r.length ≤ 1
            ∧ t.trace = s.trace ++ [.drop d, .tx (sbepFrame opcode data), .rx (sbepFrame opcode data), .rx r,
                .ended .notAcknowledged])))

/-- R203, R210: on the bytes already queued `SBEP_RECEIVE` does what `sbep_parse` says of them; in every environment it
ends `OK` only if the bytes it read are one frame that `sbep_parse` accepts, with that frame's opcode and data and its
length in `RXLEN`, and otherwise those bytes are no frame. What `RXBUF` and `ACC` hold after it is not said: they are
working state (R21). Rests on decisions D13, D14 of the spec and the model's choices in log 2, 3, 4, 13, 14, 15. -/
def Obligations.SbepReceiveAgreesWithTheParser : Prop :=
  (∀ s : State, s.phase = .idle → s.sched = [] →
    (∀ (opcode : Byte) (data rest : Bytes), sbepParse s.rxq = .frame opcode data rest →
      ∃ (frame rb : Bytes) (reads : List Bytes) (c : Byte) (n : Nat),
        frame ++ rest = s.rxq ∧ reads.flatten = frame ∧ rb.length = frame.length ∧
        exec .sbepReceive s = .next { s with
          status := .ok, result := .none, session := none, rxq := rest
          w := { s.w with opcode := opcode, data := data, dlen := BitVec.ofNat 8 data.length, acc := c
                          rxbuf := rb, rxlen := BitVec.ofNat 9 frame.length }
          trace := s.trace ++ reads.map .rx ++ [.ended .ok], free := n })
    ∧ (∀ rest : Bytes, sbepParse s.rxq = .bad rest →
      ∃ (frame : Bytes) (reads : List Bytes) (o c : Byte) (d rb : Bytes) (dl : BitVec 8) (rl : BitVec 9) (n : Nat),
        frame ++ rest = s.rxq ∧ reads.flatten = frame ∧
        exec .sbepReceive s = .next { s with
          status := .checksumFailure, result := .none, session := none, rxq := rest
          w := { s.w with opcode := o, data := d, dlen := dl, acc := c, rxbuf := rb, rxlen := rl }
          trace := s.trace ++ reads.map .rx ++ [.ended .checksumFailure], free := n })
    ∧ (sbepParse s.rxq = .short → ∃ t, exec .sbepReceive s = .next t ∧ inReceive t.phase = true
        ∧ t.status = s.status ∧ t.w.rxbuf ++ t.rxq = s.rxq ∧ Holds t))
  ∧ (∀ s t : State, s.phase = .idle → s.cfg.deadline = none → exec .sbepReceive s = .next t →
    t.busyOut = s.busyOut ∧ t.sbepMode = s.sbepMode ∧ t.wire = s.wire ∧ ∃ reads : List Bytes,
      (t.phase = .idle ∧ t.status = .ok ∧ t.trace = s.trace ++ reads.map .rx ++ [.ended .ok]
        ∧ sbepParse reads.flatten = .frame t.w.opcode t.w.data [] ∧ t.w.dlen.toNat = t.w.data.length
        ∧ t.w.rxlen.toNat = reads.flatten.length ∧ t.w.rxbuf.length = reads.flatten.length)
      ∨ (t.phase = .idle ∧ t.status = .checksumFailure
        ∧ t.trace = s.trace ++ reads.map .rx ++ [.ended .checksumFailure]
        ∧ ∀ (opcode : Byte) (data rest : Bytes), sbepParse reads.flatten ≠ .frame opcode data rest)
      ∨ (inReceive t.phase = true ∧ t.status = s.status ∧ t.trace = s.trace ++ reads.map .rx
        ∧ t.w.rxbuf = reads.flatten
        ∧ ∀ (opcode : Byte) (data rest : Bytes), sbepParse reads.flatten ≠ .frame opcode data rest))

/-- R211 item 1, R66: a timeout in any read of `SBEP_RECEIVE` ends it with `ChecksumFailure`, the bytes read gone.
Rests on decisions D12, D13, D14 of the spec and the model's choice in log 15. -/
def Obligations.ShortReadFailsReceive : Prop :=
  ∀ (s : State) (n : Nat) (ts : List Turn), inReceive s.phase = true → pendingRead s = some n → s.rxq.length < n →
    s.sched = .env .timeout :: ts →
    ∃ (o c : Byte) (d rb : Bytes) (dl : BitVec 8) (rl : BitVec 9) (k : Nat), step s = .next { s with
      phase := .idle, status := .checksumFailure, result := .none, session := none, rxq := []
      w := { s.w with opcode := o, data := d, dlen := dl, acc := c, rxbuf := rb, rxlen := rl }
      trace := s.trace ++ [.rx s.rxq, .ended .checksumFailure], sched := ts, free := k }

/-- R232: a missing or over-long image ends `BOOT` before any line activity. R43: the session exists from the start of
`BOOT`, and a passed preflight latches the image in it. Rests on decisions D25, D33 of the spec and the model's choices
in log 4, 15, 20. -/
def Obligations.BootPreflightFailsFast : Prop :=
  (∀ (s : State) (ts : List Turn), s.phase = .idle → (s.imgValid = false ∨ 4096 < s.imgLen.toNat) →
    (s.sched = .engine :: ts ∨ (s.sched = [] ∧ ts = [])) →
    ∃ b e r p n, exec .boot s = .next { s with
      status := .bootloaderFileError, result := .none, session := none
      w := { s.w with blk := b, echo := e, rdy := r, resp := p }
      trace := s.trace ++ [.ended .bootloaderFileError], sched := ts, free := n })
  ∧ (∀ (s : State) (bs : Bytes) (ts : List Turn), s.phase = .idle → s.sched = .host bs :: ts →
    exec .boot s = .next { s with
      phase := .btPreflight
      session := some { bootImage := none, baud := s.cfg.bootBaud, readySet := s.cfg.readySet } })
  ∧ (∀ (s : State) (ts : List Turn), s.phase = .btPreflight → s.imgValid = true → s.imgLen.toNat ≤ 4096 →
    s.sched = .engine :: ts → step s = .next { s with
      phase := .btReadyWait, baud := 460, rxq := []
      session := some { bootImage := some (memRead s.img s.imgLen.toNat 0 s.imgLen.toNat)
                        baud := s.cfg.bootBaud, readySet := s.cfg.readySet }
      trace := s.trace ++ [.baud 460, .drop s.rxq], sched := ts })

/-- R230, R259: against an honest MCU, every image that passes preflight is sent whole, block by block, and accepted.
Rests on the model's choices in log 2, 15, 20, 27. -/
def Obligations.BootSendsTheWholeImage : Prop :=
  ∀ (s : State) (pattern image : Bytes) (ts : List Turn), s.phase = .idle → s.imgValid = true →
    s.imgLen.toNat ≤ 4096 → image = memRead s.img s.imgLen.toNat 0 s.imgLen.toNat →
    pattern ∈ s.cfg.readySet → pattern.length = 8 → s.sched = honestBoot pattern image ++ ts →
    ∃ b e r p n, exec .boot s = .next { s with
      status := .ok, result := .none, session := none, baud := 115200, rxq := []
      cursor := BitVec.ofNat 13 (0x80 + 8 * blockCount s.imgLen.toNat)
      wire := s.wire ++ [0xFD] ++ (blocksOf image).flatten
      w := { s.w with blk := b, echo := e, rdy := r, resp := p }
      trace := s.trace
        ++ [.baud 460, .drop s.rxq, .rx pattern, .baud s.cfg.bootBaud, .drop [], .tx [0xFD], .rx [0xFD, 0xFF]]
        ++ blockEvents (blocksOf image) ++ [.baud 115200, .drop [], .rx [0x50], .ended .ok]
      sched := ts, free := n }

/-- R253, R257, R277: what each ending of `BOOT` leaves in `BAUD`, `CURSOR` and on the wire, in every environment.
Rests on decisions D19, D21 of the spec and the model's choices in log 2, 4. -/
def Obligations.BootEndingsLeaveTheRate : Prop :=
  ∀ (s t : State) (image : Bytes), s.phase = .idle → s.cfg.deadline = none → exec .boot s = .next t → t.phase = .idle →
    image = memRead s.img s.imgLen.toNat 0 s.imgLen.toNat →
    (t.status = .bootloaderFileError ∧ (s.imgValid = false ∨ 4096 < s.imgLen.toNat) ∧ t.baud = s.baud
        ∧ t.cursor = s.cursor ∧ t.wire = s.wire)
    ∨ (s.imgValid = true ∧ s.imgLen.toNat ≤ 4096
        ∧ ((t.status = .echoMismatch ∧ t.baud = s.cfg.bootBaud
            ∧ ∃ k < blockCount s.imgLen.toNat, t.cursor.toNat = 0x80 + 8 * k
              ∧ t.wire = s.wire ++ [0xFD] ++ ((blocksOf image).take (k + 1)).flatten)
          ∨ ((t.status = .ok ∨ t.status = .bootstrapFailed) ∧ t.baud = 115200
            ∧ t.cursor.toNat = 0x80 + 8 * blockCount s.imgLen.toNat
            ∧ t.wire = s.wire ++ [0xFD] ++ (blocksOf image).flatten)))

/-- R72 item 3, R73: in `BOOT`, whatever the environment does, every `Baud` is immediately followed by a `Drop`. Rests
on the spec's own inference of R72. -/
def Obligations.BootFlushesAfterEveryRateChange : Prop :=
  ∀ s t : State, s.phase = .idle → exec .boot s = .next t →
    ∃ es, t.trace = s.trace ++ es ∧ baudThenDrop es = true

/-- R169 item 6, R231: what `BUSY_IN` shows makes no difference to `BOOT`. Rests on the spec's own inference of R169. -/
def Obligations.BootNeverSamplesBusyIn : Prop :=
  ∀ (s t : State) (v : Bool), s.phase = .idle → exec .boot s = .next t →
    ∃ u, exec .boot { s with busyIn := v } = .next { t with busyIn := u }

/-- R21: no operation reads a working register before writing it: with other contents in the working registers it does
the same to everything else. Rests on the spec's own inference of R21 and the model's choice in log 13. -/
def Obligations.OldWorkingRegistersAreNeverRead : Prop :=
  ∀ (i : Instr) (s t : State) (w : Working), s.phase = .idle → exec i s = .next t →
    ∃ w', exec i { s with w := w } = .next { t with w := w' }

/-- R272: the statuses each command can end with, and which commands cannot hold. Rests on the spec's own inference of
R272. -/
def Obligations.StatusesEachCommandCanEndWith : Prop :=
  ∀ (i : Instr) (s t : State), i.port = .command → i.wellFormed = true → s.phase = .idle →
    s.cfg.deadline = none → exec i s = .next t →
    (t.phase = .idle → statusPossible i t.status = true) ∧ (mayHold i = false → t.phase = .idle)

/-- R169 items 2 to 6: who leaves `BUSY_OUT` how, in every environment. Rests on the spec's own inference of R169. -/
def Obligations.OwnershipOfBusyOut : Prop :=
  ∀ s t : State, s.phase = .idle → s.cfg.deadline = none →
    (∀ a b v o, exec (.sb9600Send a b v o) s = .next t → t.phase = .idle →
      (t.status = .ok → t.busyOut = false) ∧ (t.status = .transmitMismatch → t.busyOut = true))
    ∧ (exec .sbepEnter s = .next t → t.phase = .idle →
      (t.status = .ok → t.busyOut = true) ∧ (t.status = .notAcknowledged → t.busyOut = false))
    ∧ (∀ o d, exec (.sbepSend o d) s = .next t → t.busyOut = s.busyOut)
    ∧ (exec .sbepReceive s = .next t → t.busyOut = s.busyOut)
    ∧ (exec .sbepLeave s = .next t → t.busyOut = false)
    ∧ (exec .boot s = .next t → t.busyOut = s.busyOut)

/-- R276: the error exit writes `STATUS`, `PHASE` and `End`, leaves working registers and results undefined, and
nothing else; `CURSOR` keeps its value. Rests on the model's choices in log 13, 15, 20. -/
def Obligations.ErrorExitUndoesNothing : Prop :=
  ∀ (k : Status) (s : State), ∃ w n, raiseError k s = { s with
    status := k, phase := .idle, trace := s.trace ++ [.ended k], session := none, result := .none, w := w, free := n }

/-- R284 and notes/assumptions/19.md: without a `DEADLINE` its expiry is nothing; with one it ends any hold, even one
whose condition is already met, of a running operation with `Cancelled`, takes no queued byte and undoes nothing, but
for `SBEP_ENTER`, which de-asserts, and `WAIT_FOR_QUIET`, which restores `TIMEOUT`. That the queued bytes stay, with no
`Rx` event, is the model's choice in log 19. Rests on decision D22 of the spec and the model's choices in log 15, 19,
29. -/
def Obligations.DeadlineCancelsAHold : Prop :=
  ∀ (s : State) (ts : List Turn), s.sched = .deadline :: ts →
    (s.cfg.deadline = none ∨ s.phase = .idle ∨ isHold s.phase = false → step s = .next { s with sched := ts })
    ∧ (s.cfg.deadline ≠ none → s.phase ≠ .idle → isHold s.phase = true → s.phase ≠ .epEnterAck → s.phase ≠ .tQuiet →
      ∃ w n, step s = .next { s with
        phase := .idle, status := .cancelled, result := .none, session := none, w := w
        trace := s.trace ++ [.ended .cancelled], sched := ts, free := n })
    ∧ (s.cfg.deadline ≠ none → s.phase = .epEnterAck →
      ∃ n, step s = .next { s with
        phase := .idle, status := .cancelled, result := .none, session := none, busyOut := false, sbepMode := false
        trace := s.trace ++ [.busy false, .ended .cancelled], sched := ts, free := n })
    ∧ (s.cfg.deadline ≠ none → s.phase = .tQuiet →
      ∃ n, step s = .next { s with
        phase := .idle, status := .cancelled, result := .none, session := none, timeout := s.savedTimeout
        trace := s.trace ++ [.ended .cancelled], sched := ts, free := n })

/-- R42, R65, R67, R72 item 5: a wire format that reaches the idle engine is queued, first-listed byte first, and
nothing else happens. Rests on decisions D10, D12 of the spec and the model's choices in log 1, 27. -/
def Obligations.IdleEngineOnlyQueuesTheLine : Prop :=
  ∀ (i : Instr) (f : Format) (s : State), i.port = .wire f → s.phase = .idle →
    exec i s = .next { s with rxq := s.rxq ++ encode i }

/-- R106, R206, R208: the acknowledgement byte, where it is awaited, enters the mode or completes the send. Rests on
the model's choices in log 1, 15, 27. -/
def Obligations.AckCompletesTheWaitingOperation : Prop :=
  ∀ s : State, s.rxq = [] →
    (s.phase = .epEnterAck → ∃ n, exec .ack s = .next { s with
      phase := .idle, status := .ok, result := .none, session := none, sbepMode := true
      trace := s.trace ++ [.rx [0x50], .ended .ok], free := n })
    ∧ (s.phase = .epAck → ∃ o d dl c tb tl rb rl n, exec .ack s = .next { s with
      phase := .idle, status := .ok, result := .none, session := none
      w := { s.w with opcode := o, data := d, dlen := dl, acc := c, txbuf := tb, txlen := tl, rxbuf := rb, rxlen := rl }
      trace := s.trace ++ [.rx [0x50], .ended .ok], free := n })

/-- R94, R183, R184: five bytes at the read-back release the bus if they are the frame sent, and end the send with BUSY
asserted as it is if they are not. Rests on decision D17 of the spec and the model's choices in log 1, 15, 27. -/
def Obligations.FrameAtTheReadBack : Prop :=
  ∀ (s : State) (a b v o c : Byte), s.phase = .sbReadback → s.rxq = [] →
    ([a, b, v, o, c] = frameBytes s.w.frame → exec (.sb9600Frame a b v o c) s = .next { s with
      phase := .sbWaitRelease, busyOut := false
      w := { s.w with rxbuf := [a, b, v, o, c], rxlen := 5#9 }
      trace := s.trace ++ [.rx [a, b, v, o, c], .busy false] })
    ∧ ([a, b, v, o, c] ≠ frameBytes s.w.frame → ∃ f x rb rl n, exec (.sb9600Frame a b v o c) s = .next { s with
      phase := .idle, status := .transmitMismatch, result := .none, session := none
      w := { s.w with frame := f, acc := x, rxbuf := rb, rxlen := rl }
      trace := s.trace ++ [.rx [a, b, v, o, c], .ended .transmitMismatch], free := n })

/-- R99, R210: a header of any form at the start of `SBEP_RECEIVE` is read byte by byte, one `Rx` each, and the engine
waits for as many bytes as it announces; its opcode is the one it carries. Rests on the model's choices in log 1, 27. -/
def Obligations.HeaderAtTheStartOfReceive : Prop :=
  (∀ (i : Instr) (s : State), i.port = .wire .sbep → i.wellFormed = true → s.phase = .epRxHdr → s.rxq = [] →
    ∃ t, exec i s = .next t
      ∧ t = { s with
          phase := .epRxPayload, w := { s.w with rxbuf := encode i, rxlen := BitVec.ofNat 9 (encode i).length }
          trace := s.trace ++ (encode i).map fun b => .rx [b] }
      ∧ pendingRead t = some (headerDataLen (encode i)))
  ∧ (∀ o l : Nibble, o ≠ 0xF → l ≠ 0xF → (headerOpcode (encode (.sbepHeaderA o l))).toNat = o.toNat
      ∧ headerDataLen (encode (.sbepHeaderA o l)) = l.toNat)
  ∧ (∀ (l : Nibble) (o : Byte), l ≠ 0xF → headerOpcode (encode (.sbepHeaderB l o)) = o
      ∧ headerDataLen (encode (.sbepHeaderB l o)) = l.toNat)
  ∧ (∀ (o : Nibble) (p l : Byte), o ≠ 0xF → (headerOpcode (encode (.sbepHeaderC o p l))).toNat = o.toNat
      ∧ headerDataLen (encode (.sbepHeaderC o p l)) = l.toNat)
  ∧ (∀ o l : Byte, headerOpcode (encode (.sbepHeaderD o l)) = o ∧ headerDataLen (encode (.sbepHeaderD o l)) = l.toNat)

/-- R102, R245, R246, R250: the response to the trigger starts block transfer, or finalization where there is no block;
the trigger's own echo alone does not. A read that is not `FD FF`, in full or cut short by the timeout, is consumed and
traced, and the poll goes on with nothing else changed. Rests on decisions D18, D32 of the spec and the model's choices
in log 1, 20, 27. -/
def Obligations.TriggerResponseStartsTheTransfer : Prop :=
  (∀ s : State, s.phase = .btNegotiate → s.rxq = [] →
    exec .trigger s = .next { s with rxq := [0xFD] }
    ∧ (0x80 < (sessionImage s).length → exec .triggerResponse s = .next { s with
      phase := .btBlockSend, cursor := 0x80, w := { s.w with resp := [0xFD, 0xFF] }
      trace := s.trace ++ [.rx [0xFD, 0xFF]] })
    ∧ ((sessionImage s).length ≤ 0x80 → exec .triggerResponse s = .next { s with
      phase := .btFinalWait, cursor := 0x80, baud := 115200, w := { s.w with resp := [0xFD, 0xFF] }
      trace := s.trace ++ [.rx [0xFD, 0xFF], .baud 115200, .drop []] }))
  ∧ (∀ (s : State) (b0 b1 : Byte) (rest : Bytes) (ts : List Turn), s.phase = .btNegotiate → s.rxq = b0 :: b1 :: rest →
    [b0, b1] ≠ [0xFD, 0xFF] → s.sched = .engine :: ts → step s = .next { s with
      rxq := rest, w := { s.w with resp := [b0, b1] }, trace := s.trace ++ [.rx [b0, b1]], sched := ts })
  ∧ (∀ (s : State) (ts : List Turn), s.phase = .btNegotiate → s.rxq.length < 2 → s.sched = .env .timeout :: ts →
    step s = .next { s with
      rxq := [], w := { s.w with resp := s.rxq }, trace := s.trace ++ [.rx s.rxq], sched := ts })

/-- R104, R240, R241, R242, R244: a member of the latched `READY_SET` ends ready detection and the trigger is sent at
the bootloader rate; any other eight bytes are logged and detection goes on. However many bytes are queued, the first
eight are the window and are taken whole, the rest stays for the next one or for the flush, and fewer than eight are
waited on. Rests on decision D29 of the spec and the model's choices in log 1, 2, 20, 27. -/
def Obligations.ReadyPatternDecidesDetection : Prop :=
  (∀ (s : State) (p : Bytes) (x : Session), s.phase = .btReadyWait → s.rxq = [] → s.session = some x → p.length = 8 →
    (p ∈ x.readySet → exec (.ready p) s = .next { s with
      phase := .btNegotiate, baud := x.baud, wire := s.wire ++ [0xFD], w := { s.w with rdy := p }
      trace := s.trace ++ [.rx p, .baud x.baud, .drop [], .tx [0xFD]] })
    ∧ (p ∉ x.readySet → exec (.ready p) s = .next { s with
      w := { s.w with rdy := p }, trace := s.trace ++ [.rx p, .log p] }))
  ∧ (∀ (s : State) (p rest : Bytes) (x : Session) (ts : List Turn), s.phase = .btReadyWait → s.session = some x →
    s.rxq = p ++ rest → p.length = 8 → s.sched = .engine :: ts →
    (p ∈ x.readySet → step s = .next { s with
      phase := .btNegotiate, baud := x.baud, rxq := [], wire := s.wire ++ [0xFD], w := { s.w with rdy := p }
      trace := s.trace ++ [.rx p, .baud x.baud, .drop rest, .tx [0xFD]], sched := ts })
    ∧ (p ∉ x.readySet → step s = .next { s with
      rxq := rest, w := { s.w with rdy := p }, trace := s.trace ++ [.rx p, .log p], sched := ts }))
  ∧ (∀ (s : State) (ts : List Turn), s.phase = .btReadyWait → s.rxq.length < 8 → s.sched = .engine :: ts →
    step s = .next { s with sched := ts })

/-- R103, R252, R253, R255: the first half of an echo is awaited further; the second half verifies the block and moves
the cursor, or ends `BOOT` with `EchoMismatch` and the cursor where it was. However many bytes are queued, exactly the
first 16 are the window: a byte left over from before shifts it, a surplus stays queued unless the flush of
finalization drops it, and fewer than 16 are waited on. Rests on decisions D19, D20, D21, D28 of the spec and the
model's choices in log 1, 2, 13, 15, 27. -/
def Obligations.BlockAtTheEcho : Prop :=
  (∀ (s : State) (first data : Bytes), s.phase = .btBlockEcho → data.length = 8 →
    (s.rxq = [] → exec (.block data) s = .next { s with rxq := data })
    ∧ (s.rxq = first → first.length = 8 →
      (first ++ data = s.w.blk ++ s.w.blk → (s.cursor + 8).toNat < (sessionImage s).length →
        exec (.block data) s = .next { s with
          phase := .btBlockSend, rxq := [], cursor := s.cursor + 8, w := { s.w with echo := first ++ data }
          trace := s.trace ++ [.rx (first ++ data)] })
      ∧ (first ++ data = s.w.blk ++ s.w.blk → (sessionImage s).length ≤ (s.cursor + 8).toNat →
        exec (.block data) s = .next { s with
          phase := .btFinalWait, rxq := [], cursor := s.cursor + 8, baud := 115200
          w := { s.w with echo := first ++ data }
          trace := s.trace ++ [.rx (first ++ data), .baud 115200, .drop []] })
      ∧ (first ++ data ≠ s.w.blk ++ s.w.blk → ∃ b e r p n, exec (.block data) s = .next { s with
          phase := .idle, status := .echoMismatch, result := .none, session := none, rxq := []
          w := { s.w with blk := b, echo := e, rdy := r, resp := p }
          trace := s.trace ++ [.rx (first ++ data), .ended .echoMismatch], free := n })))
  ∧ (∀ (s : State) (e rest : Bytes) (ts : List Turn), s.phase = .btBlockEcho → s.rxq = e ++ rest → e.length = 16 →
    s.sched = .engine :: ts →
    (e = s.w.blk ++ s.w.blk → (s.cursor + 8).toNat < (sessionImage s).length → step s = .next { s with
      phase := .btBlockSend, rxq := rest, cursor := s.cursor + 8, w := { s.w with echo := e }
      trace := s.trace ++ [.rx e], sched := ts })
    ∧ (e = s.w.blk ++ s.w.blk → (sessionImage s).length ≤ (s.cursor + 8).toNat → step s = .next { s with
      phase := .btFinalWait, rxq := [], cursor := s.cursor + 8, baud := 115200, w := { s.w with echo := e }
      trace := s.trace ++ [.rx e, .baud 115200, .drop rest], sched := ts })
    ∧ (e ≠ s.w.blk ++ s.w.blk → ∃ b e' r p n, step s = .next { s with
      phase := .idle, status := .echoMismatch, result := .none, session := none, rxq := rest
      w := { s.w with blk := b, echo := e', rdy := r, resp := p }
      trace := s.trace ++ [.rx e, .ended .echoMismatch], sched := ts, free := n }))
  ∧ (∀ (s : State) (ts : List Turn), s.phase = .btBlockEcho → s.rxq.length < 16 → s.sched = .engine :: ts →
    step s = .next { s with sched := ts })

/-- R105, R256: finalization succeeds on exactly the one byte 0x50 and fails on any other non-empty response. Rests on
decision D20 of the spec and the model's choices in log 1, 15, 27. -/
def Obligations.FinalResponseIsExactlyOneByte : Prop :=
  (∀ s : State, s.phase = .btFinalWait → s.rxq = [] → ∃ b e r p n, exec .finalAck s = .next { s with
    phase := .idle, status := .ok, result := .none, session := none
    w := { s.w with blk := b, echo := e, rdy := r, resp := p }
    trace := s.trace ++ [.rx [0x50], .ended .ok], free := n })
  ∧ (∀ (s : State) (ts : List Turn), s.phase = .btFinalWait → s.rxq ≠ [] → s.sched = .engine :: ts →
    ∃ b e r p n, step s = .next { s with
      phase := .idle, status := if s.rxq = [0x50] then .ok else .bootstrapFailed
      result := .none, session := none, rxq := []
      w := { s.w with blk := b, echo := e, rdy := r, resp := p }
      trace := s.trace ++ [.rx s.rxq, .ended (if s.rxq = [0x50] then .ok else .bootstrapFailed)]
      sched := ts, free := n })

/-- The invariant of a consistent state: a legal configuration and rate (R8 to R13, R36), the cursor on its grid (R29),
the image memory canonical, the registers within capacity (R24 to R26), the session as latched (R43, R75), BUSY held as
the phase says (R183, R206, R207), the frame invariant (R22), `TIMEOUT` (R37), the wire as the trace says (R63). Every
step of every agent keeps it. Rests on decisions D4, D9, D19, D25, D33 of the spec and the model's choices in log 16,
17, 20. -/
def Obligations.EveryStepKeepsTheStateConsistent : Prop :=
  ∀ s t : State, Inv s → step s = .next t → Inv t

/-- The machine after reset is in a consistent state. Rests on decision D24 of the spec and the model's choices in log
8, 10, 11, 12. -/
def Obligations.ResetStateIsConsistent : Prop := Inv State.reset

/-- R18, R38, R61, R71: no instruction writes the image memory or the configuration. Rests on decision D1 of the spec
and the model's choice in log 8. -/
def Obligations.NoInstructionWritesImageOrConfiguration : Prop :=
  ∀ (i : Instr) (s t : State), exec i s = .next t →
    (∀ a, memByte t.img a = memByte s.img a) ∧ t.imgLen = s.imgLen ∧ t.imgValid = s.imgValid ∧ t.cfg = s.cfg

/-- R63, R70: what was written and what was traced is never taken back, and the wire carries exactly the `Tx` events.
Rests on decision D27 of the spec and the model's choice in log 16. -/
def Obligations.TraceAndWireOnlyGrow : Prop :=
  ∀ (i : Instr) (s t : State), exec i s = .next t →
    ∃ es, t.trace = s.trace ++ es ∧ t.wire = s.wire ++ txBytes es

/-- R14, R28, R282 and notes/assumptions/3.md: when no turn is left, a command has either ended or is held where the
engine's own turn changes nothing. Rests on decisions D1, D8 of the spec and the model's choice in log 3. -/
def Obligations.ExhaustedTurnsLeaveAHold : Prop :=
  ∀ (i : Instr) (s t : State), i.port = .command → s.phase = .idle → exec i s = .next t → t.sched = [] → Holds t

/-- R27, R31, R33, R36, R180, R200, R231: in every environment a holding operation touches only the state its rules
name. Rests on decision D16 of the spec and the model's choices in log 13, 14, 24. -/
def Obligations.HoldingOperationsTouchOnlyTheirState : Prop :=
  ∀ s t : State, s.phase = .idle →
    (∀ n, exec (.read n) s = .next t →
      t.busyOut = s.busyOut ∧ t.sbepMode = s.sbepMode ∧ t.baud = s.baud ∧ t.wire = s.wire ∧ t.cursor = s.cursor
      ∧ t.timeout = s.timeout ∧ t.savedTimeout = s.savedTimeout ∧ t.w = { s.w with readCount := n })
    ∧ (∀ d, exec (.waitForQuiet d) s = .next t →
      t.busyOut = s.busyOut ∧ t.sbepMode = s.sbepMode ∧ t.baud = s.baud ∧ t.wire = s.wire ∧ t.cursor = s.cursor
      ∧ t.w = s.w)
    ∧ (∀ a b v o, exec (.sb9600Send a b v o) s = .next t →
      t.sbepMode = s.sbepMode ∧ t.baud = s.baud ∧ t.cursor = s.cursor ∧ t.timeout = s.timeout
      ∧ t.savedTimeout = s.savedTimeout
      ∧ ∃ f c rb rl, t.w = { s.w with frame := f, acc := c, rxbuf := rb, rxlen := rl })
    ∧ ((exec .sbepEnter s = .next t ∨ exec .sbepLeave s = .next t) →
      t.baud = s.baud ∧ t.wire = s.wire ∧ t.cursor = s.cursor ∧ t.timeout = s.timeout
      ∧ t.savedTimeout = s.savedTimeout ∧ t.w = s.w)
    ∧ (∀ o d, exec (.sbepSend o d) s = .next t →
      t.busyOut = s.busyOut ∧ t.sbepMode = s.sbepMode ∧ t.baud = s.baud ∧ t.cursor = s.cursor ∧ t.timeout = s.timeout
      ∧ t.savedTimeout = s.savedTimeout
      ∧ ∃ o' d' dl c tb tl rb rl, t.w = { s.w with opcode := o', data := d', dlen := dl, acc := c, txbuf := tb
                                                   txlen := tl, rxbuf := rb, rxlen := rl })
    ∧ (exec .sbepReceive s = .next t →
      t.busyOut = s.busyOut ∧ t.sbepMode = s.sbepMode ∧ t.baud = s.baud ∧ t.wire = s.wire ∧ t.cursor = s.cursor
      ∧ t.timeout = s.timeout ∧ t.savedTimeout = s.savedTimeout
      ∧ ∃ o' d' dl c rb rl, t.w = { s.w with opcode := o', data := d', dlen := dl, acc := c, rxbuf := rb, rxlen := rl })
    ∧ (exec .boot s = .next t →
      t.busyOut = s.busyOut ∧ t.sbepMode = s.sbepMode ∧ t.timeout = s.timeout ∧ t.savedTimeout = s.savedTimeout
      ∧ ∃ b e r p, t.w = { s.w with blk := b, echo := e, rdy := r, resp := p })

/-- R46, R310: the values the spec gives for reset, and that the queue, the image and the working registers are not
among them. Rests on decision D24 of the spec and the model's choice in log 21. -/
def Obligations.ResetLeavesTheValuesOfTheTable : Prop :=
  State.reset.phase = .idle ∧ State.reset.status = .ok ∧ State.reset.busyOut = false ∧ State.reset.sbepMode = false
  ∧ State.reset.baud = 9600 ∧ State.reset.timeout = State.reset.cfg.readTimeout ∧ State.reset.imgValid = false
  ∧ State.reset.cfg.table = sb9600Table ∧ State.reset.trace = []

/-- R311: a reset in the middle of an operation abandons it: BUSY falls at once, nothing is written to `STATUS` by the
operation, what was written stays on the wire, the peer's line is as it was. Rests on decision D24 of the spec and the
model's choice in log 17. -/
def Obligations.ResetAbandonsTheOperation : Prop :=
  ∀ (s : State) (ts : List Turn), s.sched = .reset :: ts → ∃ t, step s = .next t
    ∧ t.phase = .idle ∧ t.status = .ok ∧ t.busyOut = false ∧ t.sbepMode = false ∧ t.baud = 9600
    ∧ t.timeout = s.cfg.readTimeout ∧ t.imgValid = false ∧ t.trace = [] ∧ t.session = none
    ∧ t.cfg = s.cfg ∧ t.wire = s.wire ∧ t.busyIn = s.busyIn ∧ t.sched = ts

/-- R40, R62, R75: an image loaded while the engine is idle is what `MemRead` returns, clipped at its end; loading one
while an operation runs is the host's fault. Rests on decision D25 of the spec and the model's choices in log 12, 18. -/
def Obligations.LoadedImageIsWhatMemReadReturns : Prop :=
  ∀ (s : State) (image : Bytes) (ts : List Turn), s.sched = .load image :: ts → image.length < 2 ^ 32 →
    (s.phase = .idle → ∃ m : Memory, step s = .next { s with
        img := m, imgLen := BitVec.ofNat 32 image.length, imgValid := true, sched := ts }
      ∧ m.wf = true ∧ ∀ a n, memRead m image.length a n = (image.drop a).take n)
    ∧ (s.phase ≠ .idle → step s = .fault .imageChangedDuringOperation)

/-- R32, R65, R66: what each step of the environment does, and that nothing but `EnvBusy` moves `BUSY_IN`: no other
turn of the engine, the line or the host, and no wire format, writes it. Rests on decision D12 of the spec and the
model's choice in log 2. -/
def Obligations.EnvironmentStepsWriteOnlyTheirLine : Prop :=
  (∀ (s : State) (v : Bool) (ts : List Turn), s.sched = .env (.busy v) :: ts →
    step s = .next { s with busyIn := v, sched := ts })
  ∧ (∀ (s : State) (b : Byte) (ts : List Turn), s.sched = .env (.rx b) :: ts →
    step s = .next { s with rxq := s.rxq ++ [b], sched := ts })
  ∧ (∀ (s : State) (ts : List Turn), s.sched = .env .timeout :: ts →
    (∀ n, pendingRead s = some n → n ≤ s.rxq.length) → step s = .next { s with sched := ts })
  ∧ (∀ s t : State, step s = .next t → (∀ v ts, s.sched ≠ .env (.busy v) :: ts) →
    (∀ bs ts, s.sched = .host bs :: ts → s.phase ≠ .idle ∨ ts = []) → t.busyIn = s.busyIn)
  ∧ (∀ (i : Instr) (f : Format) (s t : State), i.port = .wire f → exec i s = .next t → t.busyIn = s.busyIn)

/-- R34, R70, R183, R184, R206 to R209, R252, R255, R256: at reset and after every step of every agent, the phase says
how the trace and the wire end and who holds BUSY, and the status of an ended operation says how the trace ends. It
holds of a run that a turn of the host's cuts short as well. Rests on decisions D17, D20, D24, D27, D28 of the spec and
the model's choices in log 16, 17, 19. -/
def Obligations.TraceEndsAsPhaseAndStatusSay : Prop :=
  TraceOk State.reset ∧ ∀ s t : State, TraceOk s → step s = .next t → TraceOk t
end

