-- ==== Sys2Proof/Laws/Codec.lean ====
section
/-! SUPPORT. The pure functions of the codecs: what nibbles, headers, checksums and blocks are, said once. -/

namespace Sys2Proof.Machine

theorem highNibble_packNibbles (hi lo : Nibble) : highNibble (packNibbles hi lo) = hi := by
  simp only [highNibble, packNibbles]; revert hi lo; decide +kernel

theorem lowNibble_packNibbles (hi lo : Nibble) : lowNibble (packNibbles hi lo) = lo := by
  simp only [lowNibble, packNibbles]; revert hi lo; decide +kernel

/-- A byte is its two nibbles (R17). -/
theorem packNibbles_nibbles (b : Byte) : packNibbles (highNibble b) (lowNibble b) = b := by
  simp only [highNibble, lowNibble, packNibbles]; revert b; decide +kernel

/-- A byte of two nibbles, as a number (R97, R139). -/
theorem packNibbles_toNat (hi lo : Nibble) : (packNibbles hi lo).toNat = 16 * hi.toNat + lo.toNat := by
  simp only [packNibbles]; revert hi lo; decide +kernel

/-- The CRC of a longer sequence goes on from the CRC so far (R131). -/
theorem sb9600Crc_append (table a b : Bytes) :
    sb9600Crc table (a ++ b) = b.foldl (crcStep table) (sb9600Crc table a) := by simp [sb9600Crc]

@[simp] theorem byteSum_nil : byteSum [] = 0x00#8 := rfl

theorem byteSum_foldl (s : Bytes) (acc : Byte) : s.foldl (fun acc b => acc + b) acc = acc + byteSum s := by
  induction s generalizing acc with
  | nil => simp
  | cons b s ih =>
    simp only [byteSum, List.foldl_cons, BitVec.zero_add]
    rw [ih, ih b, BitVec.add_assoc]

@[simp] theorem byteSum_cons (b : Byte) (s : Bytes) : byteSum (b :: s) = b + byteSum s := by
  simpa [byteSum] using byteSum_foldl s b

@[simp] theorem byteSum_append (a b : Bytes) : byteSum (a ++ b) = byteSum a + byteSum b := by
  simpa [byteSum] using byteSum_foldl b (byteSum a)

/-- The frame of SB9600 has five bytes (R94). -/
@[simp] theorem sb9600Frame_length (table : Bytes) (a s v o : Byte) : (sb9600Frame table a s v o).length = 5 := rfl

/-- Every block has eight bytes (R251). -/
@[simp] theorem blockAt_length (image : Bytes) (offset : Nat) : (blockAt image offset).length = 8 := by
  simp [blockAt, zeros]

/-- The header is as long as its first byte announces (R97, R99). -/
theorem sbepHeader_length (opcode : Byte) (dataLen : Nat) :
    (sbepHeader opcode dataLen).length
      = if dataLen < 0xF then (if opcode.toNat < 0xF then 1 else 2) else 3 := by
  unfold sbepHeader
  dsimp only
  split <;> split <;> simp

/-- A frame is its header, its data and one checksum byte (R100). -/
theorem sbepFrame_length (opcode : Byte) (data : Bytes) :
    (sbepFrame opcode data).length = (sbepHeader opcode (data.length + 1)).length + data.length + 1 := by
  simp [sbepFrame, Nat.add_assoc]

/-- A frame has at most 258 bytes (R16, R25). -/
theorem sbepFrame_length_le (opcode : Byte) (data : Bytes) (h : data.length ≤ 254) :
    (sbepFrame opcode data).length ≤ 258 := by
  rw [sbepFrame_length, sbepHeader_length]
  split <;> (try split) <;> omega

end Sys2Proof.Machine
end

