-- ==== Sys2Proof/Laws/Memory.lean ====
section
/-! SUPPORT. The image memory: every operation that makes contents makes canonical ones, what a byte of them reads as,
and what a clipped read gives (20_memory.md R61, R62). -/

namespace Sys2Proof.Machine

/-- Cells that stand from an offset on stand from every lower one on. -/
theorem memCanonicalFrom_lower {lo lo' : Nat} {m : Memory} (h : lo' ≤ lo) (hm : memCanonicalFrom lo m = true) :
    memCanonicalFrom lo' m = true := by
  cases m with
  | nil => rfl
  | cons c m =>
    simp only [memCanonicalFrom, Bool.and_eq_true, decide_eq_true_eq] at hm ⊢
    exact ⟨⟨by omega, hm.1.2⟩, hm.2⟩

theorem memOfBytes_canonicalFrom (a : Nat) (bs : Bytes) : memCanonicalFrom a (memOfBytes a bs) = true := by
  induction bs generalizing a with
  | nil => rfl
  | cons b bs ih =>
    unfold memOfBytes
    split
    · exact memCanonicalFrom_lower (Nat.le_succ a) (ih (a + 1))
    · simp_all [memCanonicalFrom]

/-- The contents that hold given bytes are canonical. -/
theorem memOfBytes_wf (a : Nat) (bs : Bytes) : (memOfBytes a bs).wf = true :=
  memCanonicalFrom_lower (Nat.zero_le a) (memOfBytes_canonicalFrom a bs)

/-- An offset below the cells reads as an unlisted one. -/
theorem memByte_below {a lo : Nat} {m : Memory} (hm : memCanonicalFrom lo m = true) (h : a < lo) :
    memByte m a = unlistedByte := by
  induction m generalizing lo with
  | nil => rfl
  | cons c m ih =>
    simp only [memCanonicalFrom, Bool.and_eq_true, decide_eq_true_eq] at hm
    have hne : c.1 ≠ a := by omega
    simp only [memByte, hne, if_false]
    exact ih hm.2 (by omega)

/-- Reading a byte of the contents that hold given bytes gives the byte, and the unlisted byte beyond them. -/
theorem memByte_memOfBytes (a i : Nat) (bs : Bytes) :
    memByte (memOfBytes a bs) (a + i) = bs.getD i unlistedByte := by
  induction bs generalizing a i with
  | nil => rfl
  | cons b bs ih =>
    unfold memOfBytes
    cases i with
    | zero =>
      split
      · next hb =>
        rw [Nat.add_zero, memByte_below (memOfBytes_canonicalFrom (a + 1) bs) (by omega)]
        simp [hb]
      · simp [memByte]
    | succ i =>
      have h := ih (a + 1) i
      rw [show a + 1 + i = a + (i + 1) by omega] at h
      split
      · simpa using h
      · simpa [memByte] using h

/-- A read is as long as what it asks for, clipped at the end of the image (R62). -/
@[simp] theorem memRead_length (m : Memory) (len a n : Nat) : (memRead m len a n).length = min (a + n) len - a := by
  simp [memRead]

/-- The image memory at reset is canonical. -/
theorem reset_img_wf : State.reset.img.wf = true := rfl

/-- Loading an image leaves the image memory canonical. -/
theorem loadImage_img_wf (image : Bytes) (s : State) (h : s.img.wf = true) : (loadImage image s).img.wf = true := by
  unfold loadImage
  split
  · exact memOfBytes_wf 0 image
  · exact h

/-- Taking the image away leaves the image memory canonical. -/
theorem unloadImage_img_wf (s : State) (h : s.img.wf = true) : (unloadImage s).img.wf = true := h

/-- A reset leaves the image memory canonical. -/
theorem applyReset_img_wf (s : State) : (applyReset s).img.wf = true := memOfBytes_wf 0 _

end Sys2Proof.Machine
end

