-- ==== Sys2Proof/Laws/Operands.lean ====
section
/-! SUPPORT. Operands on the command port are read back from the bytes that present them (notes/assumptions/5.md). -/

namespace Sys2Proof.Machine

theorem takeNat_natBytesFuel (k n : Nat) (h : n ≤ k) (rest : Bytes) :
    takeNat (natBytesFuel k n ++ rest) = some (n, rest) := by
  induction k generalizing n with
  | zero =>
    obtain rfl : n = 0 := by omega
    simp [natBytesFuel, takeNat]
  | succ k ih =>
    unfold natBytesFuel
    split
    · next hn =>
      have : (BitVec.ofNat 8 n).toNat = n := by simp; omega
      simp [takeNat, this, hn]
    · next hn =>
      have h1 : (BitVec.ofNat 8 (n % 128 + 128)).toNat = n % 128 + 128 := by simp; omega
      simp only [List.cons_append, takeNat, h1]
      rw [ih (n / 128) (by omega)]
      simp; omega

/-- A count is read back, and what follows it is left. -/
theorem takeNat_natBytes (n : Nat) (rest : Bytes) : takeNat (natBytes n ++ rest) = some (n, rest) :=
  takeNat_natBytesFuel n n le_rfl rest

/-- A sequence is read back, and what follows it is left. -/
theorem takeSeq_seqBytes (s rest : Bytes) : takeSeq (seqBytes s ++ rest) = some (s, rest) := by
  simp [takeSeq, seqBytes, takeNat_natBytes]

/-- Bytes that follow a count do not change it. -/
theorem takeNat_append {bs rest : Bytes} {n : Nat} (h : takeNat bs = some (n, rest)) (more : Bytes) :
    takeNat (bs ++ more) = some (n, rest ++ more) := by
  induction bs generalizing n rest with
  | nil => simp [takeNat] at h
  | cons b bs ih =>
    simp only [List.cons_append, takeNat] at h ⊢
    split at h
    · simp_all
    · cases hb : takeNat bs with
      | none => simp [hb] at h
      | some r =>
        obtain ⟨m, r'⟩ := r
        simp_all

end Sys2Proof.Machine
end

