-- ==== Sys2Proof/Laws/State.lean ====
section
/-! SUPPORT. What each named operation does to each field of the state: one lemma per field per update. -/

namespace Sys2Proof.Machine

@[simp] theorem emit_phase (e : Event) (s : State) : (emit e s).phase = s.phase := rfl
@[simp] theorem emit_status (e : Event) (s : State) : (emit e s).status = s.status := rfl
@[simp] theorem emit_busyOut (e : Event) (s : State) : (emit e s).busyOut = s.busyOut := rfl
@[simp] theorem emit_busyIn (e : Event) (s : State) : (emit e s).busyIn = s.busyIn := rfl
@[simp] theorem emit_sbepMode (e : Event) (s : State) : (emit e s).sbepMode = s.sbepMode := rfl
@[simp] theorem emit_baud (e : Event) (s : State) : (emit e s).baud = s.baud := rfl
@[simp] theorem emit_timeout (e : Event) (s : State) : (emit e s).timeout = s.timeout := rfl
@[simp] theorem emit_savedTimeout (e : Event) (s : State) : (emit e s).savedTimeout = s.savedTimeout := rfl
@[simp] theorem emit_rxq (e : Event) (s : State) : (emit e s).rxq = s.rxq := rfl
@[simp] theorem emit_wire (e : Event) (s : State) : (emit e s).wire = s.wire := rfl
@[simp] theorem emit_img (e : Event) (s : State) : (emit e s).img = s.img := rfl
@[simp] theorem emit_imgLen (e : Event) (s : State) : (emit e s).imgLen = s.imgLen := rfl
@[simp] theorem emit_imgValid (e : Event) (s : State) : (emit e s).imgValid = s.imgValid := rfl
@[simp] theorem emit_cursor (e : Event) (s : State) : (emit e s).cursor = s.cursor := rfl
@[simp] theorem emit_w (e : Event) (s : State) : (emit e s).w = s.w := rfl
@[simp] theorem emit_session (e : Event) (s : State) : (emit e s).session = s.session := rfl
@[simp] theorem emit_result (e : Event) (s : State) : (emit e s).result = s.result := rfl
@[simp] theorem emit_trace (e : Event) (s : State) : (emit e s).trace = s.trace ++ [e] := rfl
@[simp] theorem emit_cfg (e : Event) (s : State) : (emit e s).cfg = s.cfg := rfl
@[simp] theorem emit_sched (e : Event) (s : State) : (emit e s).sched = s.sched := rfl
@[simp] theorem emit_free (e : Event) (s : State) : (emit e s).free = s.free := rfl

@[simp] theorem writeLine_phase (bs : Bytes) (s : State) : (writeLine bs s).phase = s.phase := rfl
@[simp] theorem writeLine_status (bs : Bytes) (s : State) : (writeLine bs s).status = s.status := rfl
@[simp] theorem writeLine_busyOut (bs : Bytes) (s : State) : (writeLine bs s).busyOut = s.busyOut := rfl
@[simp] theorem writeLine_busyIn (bs : Bytes) (s : State) : (writeLine bs s).busyIn = s.busyIn := rfl
@[simp] theorem writeLine_sbepMode (bs : Bytes) (s : State) : (writeLine bs s).sbepMode = s.sbepMode := rfl
@[simp] theorem writeLine_baud (bs : Bytes) (s : State) : (writeLine bs s).baud = s.baud := rfl
@[simp] theorem writeLine_timeout (bs : Bytes) (s : State) : (writeLine bs s).timeout = s.timeout := rfl
@[simp] theorem writeLine_savedTimeout (bs : Bytes) (s : State) : (writeLine bs s).savedTimeout = s.savedTimeout := rfl
@[simp] theorem writeLine_rxq (bs : Bytes) (s : State) : (writeLine bs s).rxq = s.rxq := rfl
@[simp] theorem writeLine_wire (bs : Bytes) (s : State) : (writeLine bs s).wire = s.wire ++ bs := rfl
@[simp] theorem writeLine_img (bs : Bytes) (s : State) : (writeLine bs s).img = s.img := rfl
@[simp] theorem writeLine_imgLen (bs : Bytes) (s : State) : (writeLine bs s).imgLen = s.imgLen := rfl
@[simp] theorem writeLine_imgValid (bs : Bytes) (s : State) : (writeLine bs s).imgValid = s.imgValid := rfl
@[simp] theorem writeLine_cursor (bs : Bytes) (s : State) : (writeLine bs s).cursor = s.cursor := rfl
@[simp] theorem writeLine_w (bs : Bytes) (s : State) : (writeLine bs s).w = s.w := rfl
@[simp] theorem writeLine_session (bs : Bytes) (s : State) : (writeLine bs s).session = s.session := rfl
@[simp] theorem writeLine_result (bs : Bytes) (s : State) : (writeLine bs s).result = s.result := rfl
@[simp] theorem writeLine_trace (bs : Bytes) (s : State) : (writeLine bs s).trace = s.trace ++ [.tx bs] := rfl
@[simp] theorem writeLine_cfg (bs : Bytes) (s : State) : (writeLine bs s).cfg = s.cfg := rfl
@[simp] theorem writeLine_sched (bs : Bytes) (s : State) : (writeLine bs s).sched = s.sched := rfl
@[simp] theorem writeLine_free (bs : Bytes) (s : State) : (writeLine bs s).free = s.free := rfl

@[simp] theorem flushInput_phase (s : State) : (flushInput s).phase = s.phase := rfl
@[simp] theorem flushInput_status (s : State) : (flushInput s).status = s.status := rfl
@[simp] theorem flushInput_busyOut (s : State) : (flushInput s).busyOut = s.busyOut := rfl
@[simp] theorem flushInput_busyIn (s : State) : (flushInput s).busyIn = s.busyIn := rfl
@[simp] theorem flushInput_sbepMode (s : State) : (flushInput s).sbepMode = s.sbepMode := rfl
@[simp] theorem flushInput_baud (s : State) : (flushInput s).baud = s.baud := rfl
@[simp] theorem flushInput_timeout (s : State) : (flushInput s).timeout = s.timeout := rfl
@[simp] theorem flushInput_savedTimeout (s : State) : (flushInput s).savedTimeout = s.savedTimeout := rfl
@[simp] theorem flushInput_rxq (s : State) : (flushInput s).rxq = [] := rfl
@[simp] theorem flushInput_wire (s : State) : (flushInput s).wire = s.wire := rfl
@[simp] theorem flushInput_img (s : State) : (flushInput s).img = s.img := rfl
@[simp] theorem flushInput_imgLen (s : State) : (flushInput s).imgLen = s.imgLen := rfl
@[simp] theorem flushInput_imgValid (s : State) : (flushInput s).imgValid = s.imgValid := rfl
@[simp] theorem flushInput_cursor (s : State) : (flushInput s).cursor = s.cursor := rfl
@[simp] theorem flushInput_w (s : State) : (flushInput s).w = s.w := rfl
@[simp] theorem flushInput_session (s : State) : (flushInput s).session = s.session := rfl
@[simp] theorem flushInput_result (s : State) : (flushInput s).result = s.result := rfl
@[simp] theorem flushInput_trace (s : State) : (flushInput s).trace = s.trace ++ [.drop s.rxq] := rfl
@[simp] theorem flushInput_cfg (s : State) : (flushInput s).cfg = s.cfg := rfl
@[simp] theorem flushInput_sched (s : State) : (flushInput s).sched = s.sched := rfl
@[simp] theorem flushInput_free (s : State) : (flushInput s).free = s.free := rfl

@[simp] theorem driveBusy_phase (v : Bool) (s : State) : (driveBusy v s).phase = s.phase := rfl
@[simp] theorem driveBusy_status (v : Bool) (s : State) : (driveBusy v s).status = s.status := rfl
@[simp] theorem driveBusy_busyOut (v : Bool) (s : State) : (driveBusy v s).busyOut = v := rfl
@[simp] theorem driveBusy_busyIn (v : Bool) (s : State) : (driveBusy v s).busyIn = s.busyIn := rfl
@[simp] theorem driveBusy_sbepMode (v : Bool) (s : State) : (driveBusy v s).sbepMode = s.sbepMode := rfl
@[simp] theorem driveBusy_baud (v : Bool) (s : State) : (driveBusy v s).baud = s.baud := rfl
@[simp] theorem driveBusy_timeout (v : Bool) (s : State) : (driveBusy v s).timeout = s.timeout := rfl
@[simp] theorem driveBusy_savedTimeout (v : Bool) (s : State) : (driveBusy v s).savedTimeout = s.savedTimeout := rfl
@[simp] theorem driveBusy_rxq (v : Bool) (s : State) : (driveBusy v s).rxq = s.rxq := rfl
@[simp] theorem driveBusy_wire (v : Bool) (s : State) : (driveBusy v s).wire = s.wire := rfl
@[simp] theorem driveBusy_img (v : Bool) (s : State) : (driveBusy v s).img = s.img := rfl
@[simp] theorem driveBusy_imgLen (v : Bool) (s : State) : (driveBusy v s).imgLen = s.imgLen := rfl
@[simp] theorem driveBusy_imgValid (v : Bool) (s : State) : (driveBusy v s).imgValid = s.imgValid := rfl
@[simp] theorem driveBusy_cursor (v : Bool) (s : State) : (driveBusy v s).cursor = s.cursor := rfl
@[simp] theorem driveBusy_w (v : Bool) (s : State) : (driveBusy v s).w = s.w := rfl
@[simp] theorem driveBusy_session (v : Bool) (s : State) : (driveBusy v s).session = s.session := rfl
@[simp] theorem driveBusy_result (v : Bool) (s : State) : (driveBusy v s).result = s.result := rfl
@[simp] theorem driveBusy_trace (v : Bool) (s : State) : (driveBusy v s).trace = s.trace ++ [.busy v] := rfl
@[simp] theorem driveBusy_cfg (v : Bool) (s : State) : (driveBusy v s).cfg = s.cfg := rfl
@[simp] theorem driveBusy_sched (v : Bool) (s : State) : (driveBusy v s).sched = s.sched := rfl
@[simp] theorem driveBusy_free (v : Bool) (s : State) : (driveBusy v s).free = s.free := rfl

@[simp] theorem driveBaud_phase (r : Nat) (s : State) : (driveBaud r s).phase = s.phase := rfl
@[simp] theorem driveBaud_status (r : Nat) (s : State) : (driveBaud r s).status = s.status := rfl
@[simp] theorem driveBaud_busyOut (r : Nat) (s : State) : (driveBaud r s).busyOut = s.busyOut := rfl
@[simp] theorem driveBaud_busyIn (r : Nat) (s : State) : (driveBaud r s).busyIn = s.busyIn := rfl
@[simp] theorem driveBaud_sbepMode (r : Nat) (s : State) : (driveBaud r s).sbepMode = s.sbepMode := rfl
@[simp] theorem driveBaud_baud (r : Nat) (s : State) : (driveBaud r s).baud = r := rfl
@[simp] theorem driveBaud_timeout (r : Nat) (s : State) : (driveBaud r s).timeout = s.timeout := rfl
@[simp] theorem driveBaud_savedTimeout (r : Nat) (s : State) : (driveBaud r s).savedTimeout = s.savedTimeout := rfl
@[simp] theorem driveBaud_rxq (r : Nat) (s : State) : (driveBaud r s).rxq = s.rxq := rfl
@[simp] theorem driveBaud_wire (r : Nat) (s : State) : (driveBaud r s).wire = s.wire := rfl
@[simp] theorem driveBaud_img (r : Nat) (s : State) : (driveBaud r s).img = s.img := rfl
@[simp] theorem driveBaud_imgLen (r : Nat) (s : State) : (driveBaud r s).imgLen = s.imgLen := rfl
@[simp] theorem driveBaud_imgValid (r : Nat) (s : State) : (driveBaud r s).imgValid = s.imgValid := rfl
@[simp] theorem driveBaud_cursor (r : Nat) (s : State) : (driveBaud r s).cursor = s.cursor := rfl
@[simp] theorem driveBaud_w (r : Nat) (s : State) : (driveBaud r s).w = s.w := rfl
@[simp] theorem driveBaud_session (r : Nat) (s : State) : (driveBaud r s).session = s.session := rfl
@[simp] theorem driveBaud_result (r : Nat) (s : State) : (driveBaud r s).result = s.result := rfl
@[simp] theorem driveBaud_trace (r : Nat) (s : State) : (driveBaud r s).trace = s.trace ++ [.baud r] := rfl
@[simp] theorem driveBaud_cfg (r : Nat) (s : State) : (driveBaud r s).cfg = s.cfg := rfl
@[simp] theorem driveBaud_sched (r : Nat) (s : State) : (driveBaud r s).sched = s.sched := rfl
@[simp] theorem driveBaud_free (r : Nat) (s : State) : (driveBaud r s).free = s.free := rfl

@[simp] theorem setRxbuf_phase (bs : Bytes) (s : State) : (setRxbuf bs s).phase = s.phase := rfl
@[simp] theorem setRxbuf_status (bs : Bytes) (s : State) : (setRxbuf bs s).status = s.status := rfl
@[simp] theorem setRxbuf_busyOut (bs : Bytes) (s : State) : (setRxbuf bs s).busyOut = s.busyOut := rfl
@[simp] theorem setRxbuf_busyIn (bs : Bytes) (s : State) : (setRxbuf bs s).busyIn = s.busyIn := rfl
@[simp] theorem setRxbuf_sbepMode (bs : Bytes) (s : State) : (setRxbuf bs s).sbepMode = s.sbepMode := rfl
@[simp] theorem setRxbuf_baud (bs : Bytes) (s : State) : (setRxbuf bs s).baud = s.baud := rfl
@[simp] theorem setRxbuf_timeout (bs : Bytes) (s : State) : (setRxbuf bs s).timeout = s.timeout := rfl
@[simp] theorem setRxbuf_savedTimeout (bs : Bytes) (s : State) : (setRxbuf bs s).savedTimeout = s.savedTimeout := rfl
@[simp] theorem setRxbuf_rxq (bs : Bytes) (s : State) : (setRxbuf bs s).rxq = s.rxq := rfl
@[simp] theorem setRxbuf_wire (bs : Bytes) (s : State) : (setRxbuf bs s).wire = s.wire := rfl
@[simp] theorem setRxbuf_img (bs : Bytes) (s : State) : (setRxbuf bs s).img = s.img := rfl
@[simp] theorem setRxbuf_imgLen (bs : Bytes) (s : State) : (setRxbuf bs s).imgLen = s.imgLen := rfl
@[simp] theorem setRxbuf_imgValid (bs : Bytes) (s : State) : (setRxbuf bs s).imgValid = s.imgValid := rfl
@[simp] theorem setRxbuf_cursor (bs : Bytes) (s : State) : (setRxbuf bs s).cursor = s.cursor := rfl
@[simp] theorem setRxbuf_w (bs : Bytes) (s : State) : (setRxbuf bs s).w = { s.w with rxbuf := bs, rxlen := BitVec.ofNat 9 bs.length } := rfl
@[simp] theorem setRxbuf_session (bs : Bytes) (s : State) : (setRxbuf bs s).session = s.session := rfl
@[simp] theorem setRxbuf_result (bs : Bytes) (s : State) : (setRxbuf bs s).result = s.result := rfl
@[simp] theorem setRxbuf_trace (bs : Bytes) (s : State) : (setRxbuf bs s).trace = s.trace := rfl
@[simp] theorem setRxbuf_cfg (bs : Bytes) (s : State) : (setRxbuf bs s).cfg = s.cfg := rfl
@[simp] theorem setRxbuf_sched (bs : Bytes) (s : State) : (setRxbuf bs s).sched = s.sched := rfl
@[simp] theorem setRxbuf_free (bs : Bytes) (s : State) : (setRxbuf bs s).free = s.free := rfl

@[simp] theorem loseRxbuf_phase (s : State) : (loseRxbuf s).phase = s.phase := rfl
@[simp] theorem loseRxbuf_status (s : State) : (loseRxbuf s).status = s.status := rfl
@[simp] theorem loseRxbuf_busyOut (s : State) : (loseRxbuf s).busyOut = s.busyOut := rfl
@[simp] theorem loseRxbuf_busyIn (s : State) : (loseRxbuf s).busyIn = s.busyIn := rfl
@[simp] theorem loseRxbuf_sbepMode (s : State) : (loseRxbuf s).sbepMode = s.sbepMode := rfl
@[simp] theorem loseRxbuf_baud (s : State) : (loseRxbuf s).baud = s.baud := rfl
@[simp] theorem loseRxbuf_timeout (s : State) : (loseRxbuf s).timeout = s.timeout := rfl
@[simp] theorem loseRxbuf_savedTimeout (s : State) : (loseRxbuf s).savedTimeout = s.savedTimeout := rfl
@[simp] theorem loseRxbuf_rxq (s : State) : (loseRxbuf s).rxq = s.rxq := rfl
@[simp] theorem loseRxbuf_wire (s : State) : (loseRxbuf s).wire = s.wire := rfl
@[simp] theorem loseRxbuf_img (s : State) : (loseRxbuf s).img = s.img := rfl
@[simp] theorem loseRxbuf_imgLen (s : State) : (loseRxbuf s).imgLen = s.imgLen := rfl
@[simp] theorem loseRxbuf_imgValid (s : State) : (loseRxbuf s).imgValid = s.imgValid := rfl
@[simp] theorem loseRxbuf_cursor (s : State) : (loseRxbuf s).cursor = s.cursor := rfl
@[simp] theorem loseRxbuf_w (s : State) : (loseRxbuf s).w = { s.w with
    rxbuf := freeBytes s.free .rxbuf s.w.rxbuf.length
    rxlen := BitVec.ofNat 9 (freeBytes s.free .rxbuf s.w.rxbuf.length).length } := rfl
@[simp] theorem loseRxbuf_session (s : State) : (loseRxbuf s).session = s.session := rfl
@[simp] theorem loseRxbuf_result (s : State) : (loseRxbuf s).result = s.result := rfl
@[simp] theorem loseRxbuf_trace (s : State) : (loseRxbuf s).trace = s.trace := rfl
@[simp] theorem loseRxbuf_cfg (s : State) : (loseRxbuf s).cfg = s.cfg := rfl
@[simp] theorem loseRxbuf_sched (s : State) : (loseRxbuf s).sched = s.sched := rfl
@[simp] theorem loseRxbuf_free (s : State) : (loseRxbuf s).free = s.free := rfl

@[simp] theorem setTxbuf_phase (bs : Bytes) (s : State) : (setTxbuf bs s).phase = s.phase := rfl
@[simp] theorem setTxbuf_status (bs : Bytes) (s : State) : (setTxbuf bs s).status = s.status := rfl
@[simp] theorem setTxbuf_busyOut (bs : Bytes) (s : State) : (setTxbuf bs s).busyOut = s.busyOut := rfl
@[simp] theorem setTxbuf_busyIn (bs : Bytes) (s : State) : (setTxbuf bs s).busyIn = s.busyIn := rfl
@[simp] theorem setTxbuf_sbepMode (bs : Bytes) (s : State) : (setTxbuf bs s).sbepMode = s.sbepMode := rfl
@[simp] theorem setTxbuf_baud (bs : Bytes) (s : State) : (setTxbuf bs s).baud = s.baud := rfl
@[simp] theorem setTxbuf_timeout (bs : Bytes) (s : State) : (setTxbuf bs s).timeout = s.timeout := rfl
@[simp] theorem setTxbuf_savedTimeout (bs : Bytes) (s : State) : (setTxbuf bs s).savedTimeout = s.savedTimeout := rfl
@[simp] theorem setTxbuf_rxq (bs : Bytes) (s : State) : (setTxbuf bs s).rxq = s.rxq := rfl
@[simp] theorem setTxbuf_wire (bs : Bytes) (s : State) : (setTxbuf bs s).wire = s.wire := rfl
@[simp] theorem setTxbuf_img (bs : Bytes) (s : State) : (setTxbuf bs s).img = s.img := rfl
@[simp] theorem setTxbuf_imgLen (bs : Bytes) (s : State) : (setTxbuf bs s).imgLen = s.imgLen := rfl
@[simp] theorem setTxbuf_imgValid (bs : Bytes) (s : State) : (setTxbuf bs s).imgValid = s.imgValid := rfl
@[simp] theorem setTxbuf_cursor (bs : Bytes) (s : State) : (setTxbuf bs s).cursor = s.cursor := rfl
@[simp] theorem setTxbuf_w (bs : Bytes) (s : State) : (setTxbuf bs s).w = { s.w with txbuf := bs, txlen := BitVec.ofNat 9 bs.length } := rfl
@[simp] theorem setTxbuf_session (bs : Bytes) (s : State) : (setTxbuf bs s).session = s.session := rfl
@[simp] theorem setTxbuf_result (bs : Bytes) (s : State) : (setTxbuf bs s).result = s.result := rfl
@[simp] theorem setTxbuf_trace (bs : Bytes) (s : State) : (setTxbuf bs s).trace = s.trace := rfl
@[simp] theorem setTxbuf_cfg (bs : Bytes) (s : State) : (setTxbuf bs s).cfg = s.cfg := rfl
@[simp] theorem setTxbuf_sched (bs : Bytes) (s : State) : (setTxbuf bs s).sched = s.sched := rfl
@[simp] theorem setTxbuf_free (bs : Bytes) (s : State) : (setTxbuf bs s).free = s.free := rfl

@[simp] theorem setMessage_phase (o : Byte) (d : Bytes) (s : State) : (setMessage o d s).phase = s.phase := rfl
@[simp] theorem setMessage_status (o : Byte) (d : Bytes) (s : State) : (setMessage o d s).status = s.status := rfl
@[simp] theorem setMessage_busyOut (o : Byte) (d : Bytes) (s : State) : (setMessage o d s).busyOut = s.busyOut := rfl
@[simp] theorem setMessage_busyIn (o : Byte) (d : Bytes) (s : State) : (setMessage o d s).busyIn = s.busyIn := rfl
@[simp] theorem setMessage_sbepMode (o : Byte) (d : Bytes) (s : State) : (setMessage o d s).sbepMode = s.sbepMode := rfl
@[simp] theorem setMessage_baud (o : Byte) (d : Bytes) (s : State) : (setMessage o d s).baud = s.baud := rfl
@[simp] theorem setMessage_timeout (o : Byte) (d : Bytes) (s : State) : (setMessage o d s).timeout = s.timeout := rfl
@[simp] theorem setMessage_savedTimeout (o : Byte) (d : Bytes) (s : State) : (setMessage o d s).savedTimeout = s.savedTimeout := rfl
@[simp] theorem setMessage_rxq (o : Byte) (d : Bytes) (s : State) : (setMessage o d s).rxq = s.rxq := rfl
@[simp] theorem setMessage_wire (o : Byte) (d : Bytes) (s : State) : (setMessage o d s).wire = s.wire := rfl
@[simp] theorem setMessage_img (o : Byte) (d : Bytes) (s : State) : (setMessage o d s).img = s.img := rfl
@[simp] theorem setMessage_imgLen (o : Byte) (d : Bytes) (s : State) : (setMessage o d s).imgLen = s.imgLen := rfl
@[simp] theorem setMessage_imgValid (o : Byte) (d : Bytes) (s : State) : (setMessage o d s).imgValid = s.imgValid := rfl
@[simp] theorem setMessage_cursor (o : Byte) (d : Bytes) (s : State) : (setMessage o d s).cursor = s.cursor := rfl
@[simp] theorem setMessage_w (o : Byte) (d : Bytes) (s : State) : (setMessage o d s).w = { s.w with opcode := o, data := d, dlen := BitVec.ofNat 8 d.length } := rfl
@[simp] theorem setMessage_session (o : Byte) (d : Bytes) (s : State) : (setMessage o d s).session = s.session := rfl
@[simp] theorem setMessage_result (o : Byte) (d : Bytes) (s : State) : (setMessage o d s).result = s.result := rfl
@[simp] theorem setMessage_trace (o : Byte) (d : Bytes) (s : State) : (setMessage o d s).trace = s.trace := rfl
@[simp] theorem setMessage_cfg (o : Byte) (d : Bytes) (s : State) : (setMessage o d s).cfg = s.cfg := rfl
@[simp] theorem setMessage_sched (o : Byte) (d : Bytes) (s : State) : (setMessage o d s).sched = s.sched := rfl
@[simp] theorem setMessage_free (o : Byte) (d : Bytes) (s : State) : (setMessage o d s).free = s.free := rfl

@[simp] theorem buildFrame_phase (a b v o : Byte) (s : State) : (buildFrame a b v o s).phase = s.phase := rfl
@[simp] theorem buildFrame_status (a b v o : Byte) (s : State) : (buildFrame a b v o s).status = s.status := rfl
@[simp] theorem buildFrame_busyOut (a b v o : Byte) (s : State) : (buildFrame a b v o s).busyOut = s.busyOut := rfl
@[simp] theorem buildFrame_busyIn (a b v o : Byte) (s : State) : (buildFrame a b v o s).busyIn = s.busyIn := rfl
@[simp] theorem buildFrame_sbepMode (a b v o : Byte) (s : State) : (buildFrame a b v o s).sbepMode = s.sbepMode := rfl
@[simp] theorem buildFrame_baud (a b v o : Byte) (s : State) : (buildFrame a b v o s).baud = s.baud := rfl
@[simp] theorem buildFrame_timeout (a b v o : Byte) (s : State) : (buildFrame a b v o s).timeout = s.timeout := rfl
@[simp] theorem buildFrame_savedTimeout (a b v o : Byte) (s : State) : (buildFrame a b v o s).savedTimeout = s.savedTimeout := rfl
@[simp] theorem buildFrame_rxq (a b v o : Byte) (s : State) : (buildFrame a b v o s).rxq = s.rxq := rfl
@[simp] theorem buildFrame_wire (a b v o : Byte) (s : State) : (buildFrame a b v o s).wire = s.wire := rfl
@[simp] theorem buildFrame_img (a b v o : Byte) (s : State) : (buildFrame a b v o s).img = s.img := rfl
@[simp] theorem buildFrame_imgLen (a b v o : Byte) (s : State) : (buildFrame a b v o s).imgLen = s.imgLen := rfl
@[simp] theorem buildFrame_imgValid (a b v o : Byte) (s : State) : (buildFrame a b v o s).imgValid = s.imgValid := rfl
@[simp] theorem buildFrame_cursor (a b v o : Byte) (s : State) : (buildFrame a b v o s).cursor = s.cursor := rfl
@[simp] theorem buildFrame_session (a b v o : Byte) (s : State) : (buildFrame a b v o s).session = s.session := rfl
@[simp] theorem buildFrame_result (a b v o : Byte) (s : State) : (buildFrame a b v o s).result = s.result := rfl
@[simp] theorem buildFrame_trace (a b v o : Byte) (s : State) : (buildFrame a b v o s).trace = s.trace := rfl
@[simp] theorem buildFrame_cfg (a b v o : Byte) (s : State) : (buildFrame a b v o s).cfg = s.cfg := rfl
@[simp] theorem buildFrame_sched (a b v o : Byte) (s : State) : (buildFrame a b v o s).sched = s.sched := rfl
@[simp] theorem buildFrame_free (a b v o : Byte) (s : State) : (buildFrame a b v o s).free = s.free := rfl

@[simp] theorem forget_phase (l : List Slot) (s : State) : (forget l s).phase = s.phase := rfl
@[simp] theorem forget_status (l : List Slot) (s : State) : (forget l s).status = s.status := rfl
@[simp] theorem forget_busyOut (l : List Slot) (s : State) : (forget l s).busyOut = s.busyOut := rfl
@[simp] theorem forget_busyIn (l : List Slot) (s : State) : (forget l s).busyIn = s.busyIn := rfl
@[simp] theorem forget_sbepMode (l : List Slot) (s : State) : (forget l s).sbepMode = s.sbepMode := rfl
@[simp] theorem forget_baud (l : List Slot) (s : State) : (forget l s).baud = s.baud := rfl
@[simp] theorem forget_timeout (l : List Slot) (s : State) : (forget l s).timeout = s.timeout := rfl
@[simp] theorem forget_savedTimeout (l : List Slot) (s : State) : (forget l s).savedTimeout = s.savedTimeout := rfl
@[simp] theorem forget_rxq (l : List Slot) (s : State) : (forget l s).rxq = s.rxq := rfl
@[simp] theorem forget_wire (l : List Slot) (s : State) : (forget l s).wire = s.wire := rfl
@[simp] theorem forget_img (l : List Slot) (s : State) : (forget l s).img = s.img := rfl
@[simp] theorem forget_imgLen (l : List Slot) (s : State) : (forget l s).imgLen = s.imgLen := rfl
@[simp] theorem forget_imgValid (l : List Slot) (s : State) : (forget l s).imgValid = s.imgValid := rfl
@[simp] theorem forget_cursor (l : List Slot) (s : State) : (forget l s).cursor = s.cursor := rfl
@[simp] theorem forget_w (l : List Slot) (s : State) : (forget l s).w = l.foldl (scramble s.free) s.w := rfl
@[simp] theorem forget_session (l : List Slot) (s : State) : (forget l s).session = s.session := rfl
@[simp] theorem forget_result (l : List Slot) (s : State) : (forget l s).result = s.result := rfl
@[simp] theorem forget_trace (l : List Slot) (s : State) : (forget l s).trace = s.trace := rfl
@[simp] theorem forget_cfg (l : List Slot) (s : State) : (forget l s).cfg = s.cfg := rfl
@[simp] theorem forget_sched (l : List Slot) (s : State) : (forget l s).sched = s.sched := rfl
@[simp] theorem forget_free (l : List Slot) (s : State) : (forget l s).free = s.free + 1 := rfl

@[simp] theorem endOp_phase (k : Status) (r : Result) (l : List Slot) (s : State) : (endOp k r l s).phase = .idle := rfl
@[simp] theorem endOp_status (k : Status) (r : Result) (l : List Slot) (s : State) : (endOp k r l s).status = k := rfl
@[simp] theorem endOp_busyOut (k : Status) (r : Result) (l : List Slot) (s : State) : (endOp k r l s).busyOut = s.busyOut := rfl
@[simp] theorem endOp_busyIn (k : Status) (r : Result) (l : List Slot) (s : State) : (endOp k r l s).busyIn = s.busyIn := rfl
@[simp] theorem endOp_sbepMode (k : Status) (r : Result) (l : List Slot) (s : State) : (endOp k r l s).sbepMode = s.sbepMode := rfl
@[simp] theorem endOp_baud (k : Status) (r : Result) (l : List Slot) (s : State) : (endOp k r l s).baud = s.baud := rfl
@[simp] theorem endOp_timeout (k : Status) (r : Result) (l : List Slot) (s : State) : (endOp k r l s).timeout = s.timeout := rfl
@[simp] theorem endOp_savedTimeout (k : Status) (r : Result) (l : List Slot) (s : State) : (endOp k r l s).savedTimeout = s.savedTimeout := rfl
@[simp] theorem endOp_rxq (k : Status) (r : Result) (l : List Slot) (s : State) : (endOp k r l s).rxq = s.rxq := rfl
@[simp] theorem endOp_wire (k : Status) (r : Result) (l : List Slot) (s : State) : (endOp k r l s).wire = s.wire := rfl
@[simp] theorem endOp_img (k : Status) (r : Result) (l : List Slot) (s : State) : (endOp k r l s).img = s.img := rfl
@[simp] theorem endOp_imgLen (k : Status) (r : Result) (l : List Slot) (s : State) : (endOp k r l s).imgLen = s.imgLen := rfl
@[simp] theorem endOp_imgValid (k : Status) (r : Result) (l : List Slot) (s : State) : (endOp k r l s).imgValid = s.imgValid := rfl
@[simp] theorem endOp_cursor (k : Status) (r : Result) (l : List Slot) (s : State) : (endOp k r l s).cursor = s.cursor := rfl
@[simp] theorem endOp_w (k : Status) (r : Result) (l : List Slot) (s : State) : (endOp k r l s).w = l.foldl (scramble s.free) s.w := rfl
@[simp] theorem endOp_session (k : Status) (r : Result) (l : List Slot) (s : State) : (endOp k r l s).session = none := rfl
@[simp] theorem endOp_result (k : Status) (r : Result) (l : List Slot) (s : State) : (endOp k r l s).result = r := rfl
@[simp] theorem endOp_trace (k : Status) (r : Result) (l : List Slot) (s : State) : (endOp k r l s).trace = s.trace ++ [.ended k] := rfl
@[simp] theorem endOp_cfg (k : Status) (r : Result) (l : List Slot) (s : State) : (endOp k r l s).cfg = s.cfg := rfl
@[simp] theorem endOp_sched (k : Status) (r : Result) (l : List Slot) (s : State) : (endOp k r l s).sched = s.sched := rfl
@[simp] theorem endOp_free (k : Status) (r : Result) (l : List Slot) (s : State) : (endOp k r l s).free = s.free + 1 := rfl

@[simp] theorem raiseError_phase (k : Status) (s : State) : (raiseError k s).phase = .idle := rfl
@[simp] theorem raiseError_status (k : Status) (s : State) : (raiseError k s).status = k := rfl
@[simp] theorem raiseError_busyOut (k : Status) (s : State) : (raiseError k s).busyOut = s.busyOut := rfl
@[simp] theorem raiseError_busyIn (k : Status) (s : State) : (raiseError k s).busyIn = s.busyIn := rfl
@[simp] theorem raiseError_sbepMode (k : Status) (s : State) : (raiseError k s).sbepMode = s.sbepMode := rfl
@[simp] theorem raiseError_baud (k : Status) (s : State) : (raiseError k s).baud = s.baud := rfl
@[simp] theorem raiseError_timeout (k : Status) (s : State) : (raiseError k s).timeout = s.timeout := rfl
@[simp] theorem raiseError_savedTimeout (k : Status) (s : State) : (raiseError k s).savedTimeout = s.savedTimeout := rfl
@[simp] theorem raiseError_rxq (k : Status) (s : State) : (raiseError k s).rxq = s.rxq := rfl
@[simp] theorem raiseError_wire (k : Status) (s : State) : (raiseError k s).wire = s.wire := rfl
@[simp] theorem raiseError_img (k : Status) (s : State) : (raiseError k s).img = s.img := rfl
@[simp] theorem raiseError_imgLen (k : Status) (s : State) : (raiseError k s).imgLen = s.imgLen := rfl
@[simp] theorem raiseError_imgValid (k : Status) (s : State) : (raiseError k s).imgValid = s.imgValid := rfl
@[simp] theorem raiseError_cursor (k : Status) (s : State) : (raiseError k s).cursor = s.cursor := rfl
@[simp] theorem raiseError_w (k : Status) (s : State) : (raiseError k s).w = (workingOf s.phase).foldl (scramble s.free) s.w := rfl
@[simp] theorem raiseError_session (k : Status) (s : State) : (raiseError k s).session = none := rfl
@[simp] theorem raiseError_result (k : Status) (s : State) : (raiseError k s).result = .none := rfl
@[simp] theorem raiseError_trace (k : Status) (s : State) : (raiseError k s).trace = s.trace ++ [.ended k] := rfl
@[simp] theorem raiseError_cfg (k : Status) (s : State) : (raiseError k s).cfg = s.cfg := rfl
@[simp] theorem raiseError_sched (k : Status) (s : State) : (raiseError k s).sched = s.sched := rfl
@[simp] theorem raiseError_free (k : Status) (s : State) : (raiseError k s).free = s.free + 1 := rfl

@[simp] theorem finishOp_phase (r : Result) (s : State) : (finishOp r s).phase = .idle := rfl
@[simp] theorem finishOp_status (r : Result) (s : State) : (finishOp r s).status = .ok := rfl
@[simp] theorem finishOp_busyOut (r : Result) (s : State) : (finishOp r s).busyOut = s.busyOut := rfl
@[simp] theorem finishOp_busyIn (r : Result) (s : State) : (finishOp r s).busyIn = s.busyIn := rfl
@[simp] theorem finishOp_sbepMode (r : Result) (s : State) : (finishOp r s).sbepMode = s.sbepMode := rfl
@[simp] theorem finishOp_baud (r : Result) (s : State) : (finishOp r s).baud = s.baud := rfl
@[simp] theorem finishOp_timeout (r : Result) (s : State) : (finishOp r s).timeout = s.timeout := rfl
@[simp] theorem finishOp_savedTimeout (r : Result) (s : State) : (finishOp r s).savedTimeout = s.savedTimeout := rfl
@[simp] theorem finishOp_rxq (r : Result) (s : State) : (finishOp r s).rxq = s.rxq := rfl
@[simp] theorem finishOp_wire (r : Result) (s : State) : (finishOp r s).wire = s.wire := rfl
@[simp] theorem finishOp_img (r : Result) (s : State) : (finishOp r s).img = s.img := rfl
@[simp] theorem finishOp_imgLen (r : Result) (s : State) : (finishOp r s).imgLen = s.imgLen := rfl
@[simp] theorem finishOp_imgValid (r : Result) (s : State) : (finishOp r s).imgValid = s.imgValid := rfl
@[simp] theorem finishOp_cursor (r : Result) (s : State) : (finishOp r s).cursor = s.cursor := rfl
@[simp] theorem finishOp_w (r : Result) (s : State) : (finishOp r s).w = (workingOf s.phase).foldl (scramble s.free) s.w := rfl
@[simp] theorem finishOp_session (r : Result) (s : State) : (finishOp r s).session = none := rfl
@[simp] theorem finishOp_result (r : Result) (s : State) : (finishOp r s).result = r := rfl
@[simp] theorem finishOp_trace (r : Result) (s : State) : (finishOp r s).trace = s.trace ++ [.ended .ok] := rfl
@[simp] theorem finishOp_cfg (r : Result) (s : State) : (finishOp r s).cfg = s.cfg := rfl
@[simp] theorem finishOp_sched (r : Result) (s : State) : (finishOp r s).sched = s.sched := rfl
@[simp] theorem finishOp_free (r : Result) (s : State) : (finishOp r s).free = s.free + 1 := rfl

@[simp] theorem openSession_phase (s : State) : (openSession s).phase = s.phase := rfl
@[simp] theorem openSession_status (s : State) : (openSession s).status = s.status := rfl
@[simp] theorem openSession_busyOut (s : State) : (openSession s).busyOut = s.busyOut := rfl
@[simp] theorem openSession_busyIn (s : State) : (openSession s).busyIn = s.busyIn := rfl
@[simp] theorem openSession_sbepMode (s : State) : (openSession s).sbepMode = s.sbepMode := rfl
@[simp] theorem openSession_baud (s : State) : (openSession s).baud = s.baud := rfl
@[simp] theorem openSession_timeout (s : State) : (openSession s).timeout = s.timeout := rfl
@[simp] theorem openSession_savedTimeout (s : State) : (openSession s).savedTimeout = s.savedTimeout := rfl
@[simp] theorem openSession_rxq (s : State) : (openSession s).rxq = s.rxq := rfl
@[simp] theorem openSession_wire (s : State) : (openSession s).wire = s.wire := rfl
@[simp] theorem openSession_img (s : State) : (openSession s).img = s.img := rfl
@[simp] theorem openSession_imgLen (s : State) : (openSession s).imgLen = s.imgLen := rfl
@[simp] theorem openSession_imgValid (s : State) : (openSession s).imgValid = s.imgValid := rfl
@[simp] theorem openSession_cursor (s : State) : (openSession s).cursor = s.cursor := rfl
@[simp] theorem openSession_w (s : State) : (openSession s).w = s.w := rfl
@[simp] theorem openSession_session (s : State) :
    (openSession s).session = some { bootImage := none, baud := s.cfg.bootBaud, readySet := s.cfg.readySet } := rfl
@[simp] theorem openSession_result (s : State) : (openSession s).result = s.result := rfl
@[simp] theorem openSession_trace (s : State) : (openSession s).trace = s.trace := rfl
@[simp] theorem openSession_cfg (s : State) : (openSession s).cfg = s.cfg := rfl
@[simp] theorem openSession_sched (s : State) : (openSession s).sched = s.sched := rfl
@[simp] theorem openSession_free (s : State) : (openSession s).free = s.free := rfl

@[simp] theorem latchSession_phase (s : State) : (latchSession s).phase = s.phase := rfl
@[simp] theorem latchSession_status (s : State) : (latchSession s).status = s.status := rfl
@[simp] theorem latchSession_busyOut (s : State) : (latchSession s).busyOut = s.busyOut := rfl
@[simp] theorem latchSession_busyIn (s : State) : (latchSession s).busyIn = s.busyIn := rfl
@[simp] theorem latchSession_sbepMode (s : State) : (latchSession s).sbepMode = s.sbepMode := rfl
@[simp] theorem latchSession_baud (s : State) : (latchSession s).baud = s.baud := rfl
@[simp] theorem latchSession_timeout (s : State) : (latchSession s).timeout = s.timeout := rfl
@[simp] theorem latchSession_savedTimeout (s : State) : (latchSession s).savedTimeout = s.savedTimeout := rfl
@[simp] theorem latchSession_rxq (s : State) : (latchSession s).rxq = s.rxq := rfl
@[simp] theorem latchSession_wire (s : State) : (latchSession s).wire = s.wire := rfl
@[simp] theorem latchSession_img (s : State) : (latchSession s).img = s.img := rfl
@[simp] theorem latchSession_imgLen (s : State) : (latchSession s).imgLen = s.imgLen := rfl
@[simp] theorem latchSession_imgValid (s : State) : (latchSession s).imgValid = s.imgValid := rfl
@[simp] theorem latchSession_cursor (s : State) : (latchSession s).cursor = s.cursor := rfl
@[simp] theorem latchSession_w (s : State) : (latchSession s).w = s.w := rfl
@[simp] theorem latchSession_session (s : State) :
    (latchSession s).session = some { bootImage := some (memRead s.img s.imgLen.toNat 0 s.imgLen.toNat)
                                      baud := s.cfg.bootBaud
                                      readySet := s.cfg.readySet } := rfl
@[simp] theorem sessionImage_latchSession (s : State) :
    sessionImage (latchSession s) = memRead s.img s.imgLen.toNat 0 s.imgLen.toNat := rfl
@[simp] theorem sessionBaud_latchSession (s : State) : sessionBaud (latchSession s) = s.cfg.bootBaud := rfl
@[simp] theorem sessionReadySet_latchSession (s : State) : sessionReadySet (latchSession s) = s.cfg.readySet := rfl
@[simp] theorem latchSession_result (s : State) : (latchSession s).result = s.result := rfl
@[simp] theorem latchSession_trace (s : State) : (latchSession s).trace = s.trace := rfl
@[simp] theorem latchSession_cfg (s : State) : (latchSession s).cfg = s.cfg := rfl
@[simp] theorem latchSession_sched (s : State) : (latchSession s).sched = s.sched := rfl
@[simp] theorem latchSession_free (s : State) : (latchSession s).free = s.free := rfl

@[simp] theorem enterFinal_phase (s : State) : (enterFinal s).phase = .btFinalWait := rfl
@[simp] theorem enterFinal_status (s : State) : (enterFinal s).status = s.status := rfl
@[simp] theorem enterFinal_busyOut (s : State) : (enterFinal s).busyOut = s.busyOut := rfl
@[simp] theorem enterFinal_busyIn (s : State) : (enterFinal s).busyIn = s.busyIn := rfl
@[simp] theorem enterFinal_sbepMode (s : State) : (enterFinal s).sbepMode = s.sbepMode := rfl
@[simp] theorem enterFinal_baud (s : State) : (enterFinal s).baud = 115200 := rfl
@[simp] theorem enterFinal_timeout (s : State) : (enterFinal s).timeout = s.timeout := rfl
@[simp] theorem enterFinal_savedTimeout (s : State) : (enterFinal s).savedTimeout = s.savedTimeout := rfl
@[simp] theorem enterFinal_rxq (s : State) : (enterFinal s).rxq = [] := rfl
@[simp] theorem enterFinal_wire (s : State) : (enterFinal s).wire = s.wire := rfl
@[simp] theorem enterFinal_img (s : State) : (enterFinal s).img = s.img := rfl
@[simp] theorem enterFinal_imgLen (s : State) : (enterFinal s).imgLen = s.imgLen := rfl
@[simp] theorem enterFinal_imgValid (s : State) : (enterFinal s).imgValid = s.imgValid := rfl
@[simp] theorem enterFinal_cursor (s : State) : (enterFinal s).cursor = s.cursor := rfl
@[simp] theorem enterFinal_w (s : State) : (enterFinal s).w = s.w := rfl
@[simp] theorem enterFinal_session (s : State) : (enterFinal s).session = s.session := rfl
@[simp] theorem enterFinal_result (s : State) : (enterFinal s).result = s.result := rfl
@[simp] theorem enterFinal_cfg (s : State) : (enterFinal s).cfg = s.cfg := rfl
@[simp] theorem enterFinal_sched (s : State) : (enterFinal s).sched = s.sched := rfl
@[simp] theorem enterFinal_free (s : State) : (enterFinal s).free = s.free := rfl

@[simp] theorem unloadImage_phase (s : State) : (unloadImage s).phase = s.phase := rfl
@[simp] theorem unloadImage_status (s : State) : (unloadImage s).status = s.status := rfl
@[simp] theorem unloadImage_busyOut (s : State) : (unloadImage s).busyOut = s.busyOut := rfl
@[simp] theorem unloadImage_busyIn (s : State) : (unloadImage s).busyIn = s.busyIn := rfl
@[simp] theorem unloadImage_sbepMode (s : State) : (unloadImage s).sbepMode = s.sbepMode := rfl
@[simp] theorem unloadImage_baud (s : State) : (unloadImage s).baud = s.baud := rfl
@[simp] theorem unloadImage_timeout (s : State) : (unloadImage s).timeout = s.timeout := rfl
@[simp] theorem unloadImage_savedTimeout (s : State) : (unloadImage s).savedTimeout = s.savedTimeout := rfl
@[simp] theorem unloadImage_rxq (s : State) : (unloadImage s).rxq = s.rxq := rfl
@[simp] theorem unloadImage_wire (s : State) : (unloadImage s).wire = s.wire := rfl
@[simp] theorem unloadImage_img (s : State) : (unloadImage s).img = s.img := rfl
@[simp] theorem unloadImage_imgLen (s : State) : (unloadImage s).imgLen = s.imgLen := rfl
@[simp] theorem unloadImage_imgValid (s : State) : (unloadImage s).imgValid = false := rfl
@[simp] theorem unloadImage_cursor (s : State) : (unloadImage s).cursor = s.cursor := rfl
@[simp] theorem unloadImage_w (s : State) : (unloadImage s).w = s.w := rfl
@[simp] theorem unloadImage_session (s : State) : (unloadImage s).session = s.session := rfl
@[simp] theorem unloadImage_result (s : State) : (unloadImage s).result = s.result := rfl
@[simp] theorem unloadImage_trace (s : State) : (unloadImage s).trace = s.trace := rfl
@[simp] theorem unloadImage_cfg (s : State) : (unloadImage s).cfg = s.cfg := rfl
@[simp] theorem unloadImage_sched (s : State) : (unloadImage s).sched = s.sched := rfl
@[simp] theorem unloadImage_free (s : State) : (unloadImage s).free = s.free := rfl

@[simp] theorem flushOutput_eq (s : State) : flushOutput s = s := rfl

@[simp] theorem enterFinal_trace (s : State) : (enterFinal s).trace = s.trace ++ [.baud 115200] ++ [.drop s.rxq] := rfl

@[simp] theorem forget_nil (s : State) : forget [] s = { s with free := s.free + 1 } := rfl

end Sys2Proof.Machine
end

