-- ==== Sys2Proof/Laws/Sequencer.lean ====
section
/-! SUPPORT. What the sequencer can do, said once: how a property passes through a read's end, a turn, a delivery, a
settling and a run, and the fields that no engine turn writes. -/

namespace Sys2Proof.Machine

/-- The command port answers a next state, whatever is presented. -/
theorem command_eq (ok : Bool) (op : State → State) (s : State) :
    command ok op s = .next (if ok = true ∧ s.phase = .idle then op s else s) := rfl

theorem command_idle {ok : Bool} {op : State → State} {s : State} (hok : ok = true) (h : s.phase = .idle) :
    command ok op s = .next (op s) := by simp [command_eq, hok, h]

theorem command_busy {ok : Bool} {op : State → State} {s : State} (h : s.phase ≠ .idle) :
    command ok op s = .next s := by simp [command_eq, h]

theorem command_illFormed {ok : Bool} {op : State → State} {s : State} (h : ok = false) :
    command ok op s = .next s := by simp [command_eq, h]

/-- The engine's turn: the end of a read, another edge, or nothing. -/
theorem engineTurn_cases (s : State) :
    (∃ n, pendingRead s = some n ∧ n ≤ s.rxq.length ∧ engineTurn s = completeRead n s)
    ∨ (∃ n, pendingRead s = some n ∧ s.rxq.length < n ∧ engineTurn s = s)
    ∨ (pendingRead s = none ∧ engineTurn s = edgeTurn s) := by
  unfold engineTurn
  cases h : pendingRead s with
  | none => exact .inr (.inr ⟨rfl, rfl⟩)
  | some n =>
    by_cases hn : n ≤ s.rxq.length
    · exact .inl ⟨n, rfl, hn, by simp [hn]⟩
    · exact .inr (.inl ⟨n, rfl, by omega, by simp [hn]⟩)

/-- The timeout: the short end of a read, or nothing. -/
theorem timeoutTurn_cases (s : State) :
    (∃ n, pendingRead s = some n ∧ s.rxq.length < n ∧ timeoutTurn s = completeRead n s) ∨ timeoutTurn s = s := by
  unfold timeoutTurn
  cases h : pendingRead s with
  | none => exact .inr rfl
  | some n =>
    by_cases hn : n ≤ s.rxq.length
    · exact .inr (by simp [hn])
    · exact .inl ⟨n, rfl, by omega, by simp [hn]⟩

/-- The expiry of a deadline: the cancelling of an operation in a hold phase, or nothing. -/
theorem deadlineTurn_cases (s : State) :
    (s.cfg.deadline.isSome = true ∧ s.phase ≠ .idle ∧ isHold s.phase = true
      ∧ deadlineTurn s = raiseError .cancelled (beforeCancel s))
    ∨ deadlineTurn s = s := by
  unfold deadlineTurn
  split
  · next h => exact .inl ⟨h.1, h.2.1, h.2.2, rfl⟩
  · exact .inr rfl

/-- A property that every read's end and every other edge keeps is kept by the engine's turn. -/
theorem engineTurn_keeps {P : State → Prop} (hread : ∀ s n, pendingRead s = some n → P s → P (completeRead n s))
    (hedge : ∀ s, P s → P (edgeTurn s)) (s : State) (h : P s) : P (engineTurn s) := by
  obtain ⟨n, hp, -, he⟩ | ⟨n, -, -, he⟩ | ⟨-, he⟩ := engineTurn_cases s <;> rw [he]
  · exact hread s n hp h
  · exact h
  · exact hedge s h

/-- A property that every read's end keeps is kept by the timeout. -/
theorem timeoutTurn_keeps {P : State → Prop} (hread : ∀ s n, pendingRead s = some n → P s → P (completeRead n s))
    (s : State) (h : P s) : P (timeoutTurn s) := by
  obtain ⟨n, hp, -, he⟩ | he := timeoutTurn_cases s <;> rw [he]
  · exact hread s n hp h
  · exact h

/-- A property that arrivals and engine turns keep is kept by a delivery. -/
theorem deliver_keeps {P : State → Prop} (hrx : ∀ s b, P s → P { s with rxq := s.rxq ++ [b] })
    (hengine : ∀ s, P s → P (engineTurn s)) (bs : Bytes) (s : State) (h : P s) : P (deliver bs s) := by
  induction bs generalizing s with
  | nil => exact h
  | cons b bs ih => exact ih _ (hengine _ (hrx s b h))

/-- A property that engine turns keep is kept by settling. -/
theorem settle_keeps {P : State → Prop} (hengine : ∀ s, P s → P (engineTurn s)) (k : Nat) (s : State) (h : P s) :
    P (settle k s) := by
  induction k generalizing s with
  | zero => exact h
  | succ k ih =>
    unfold settle
    split
    · exact h
    · exact ih _ (hengine s h)

/-- A property that every turn of the engine and the environment keeps, and that does not speak of the turns to come,
is kept by a run. -/
theorem run_keeps {P : State → Prop} (hsched : ∀ s x, P s → P { s with sched := x })
    (hengine : ∀ s, P s → P (engineTurn s)) (hrx : ∀ s b, P s → P { s with rxq := s.rxq ++ [b] })
    (hbusy : ∀ s v, P s → P { s with busyIn := v }) (htimeout : ∀ s, P s → P (timeoutTurn s))
    (hdeadline : ∀ s, P s → P (deadlineTurn s)) (ts : List Turn) (s : State) (h : P s) : P (run ts s) := by
  induction ts generalizing s with
  | nil => exact hsched _ _ (settle_keeps hengine _ _ h)
  | cons t ts ih =>
    unfold run
    split
    · exact hsched _ _ h
    · cases t with
      | engine => exact ih _ (hengine s h)
      | env e =>
        cases e with
        | rx b => exact ih _ (hrx s b h)
        | busy v => exact ih _ (hbusy s v h)
        | timeout => exact ih _ (htimeout s h)
      | line bs => exact ih _ (deliver_keeps hrx hengine bs s h)
      | deadline => exact ih _ (hdeadline s h)
      | host bs => exact hsched _ _ h
      | load bs => exact hsched _ _ h
      | unload => exact hsched _ _ h
      | reset => exact hsched _ _ h

/-- A run of an ended operation takes no turn. -/
theorem run_idle {s : State} (h : s.phase = .idle) (ts : List Turn) : run ts s = { s with sched := ts } := by
  cases ts with
  | nil => simp [run, settleTurns, settle, h]
  | cons t ts => simp [run, h]

/-- A run of an operation takes the next turn of the engine or the environment. -/
theorem run_turn {s s' : State} {t : Turn} (h : s.phase ≠ .idle) (ht : runTurn t s = some s') (ts : List Turn) :
    run (t :: ts) s = run ts s' := by simp [run, h, ht]

theorem deliver_append (a b : Bytes) (s : State) : deliver (a ++ b) s = deliver b (deliver a s) := by
  induction a generalizing s with
  | nil => rfl
  | cons x a ih => exact ih _

/-- The idle engine takes no edge. -/
theorem engineTurn_idle {s : State} (h : s.phase = .idle) : engineTurn s = s := by
  simp [engineTurn, pendingRead, edgeTurn, h]

/-- What the end of a read leaves alone: the image, the configuration, the peer's line, the turns to come. -/
theorem completeRead_same (n : Nat) (s : State) :
    (completeRead n s).img = s.img ∧ (completeRead n s).imgLen = s.imgLen ∧ (completeRead n s).imgValid = s.imgValid
    ∧ (completeRead n s).cfg = s.cfg ∧ (completeRead n s).busyIn = s.busyIn ∧ (completeRead n s).sched = s.sched := by
  unfold completeRead afterRead nextBlock receiveVerdict
  cases s.phase <;> dsimp only <;> (repeat' split) <;> simp

/-- What an edge leaves alone. -/
theorem edgeTurn_same (s : State) :
    (edgeTurn s).img = s.img ∧ (edgeTurn s).imgLen = s.imgLen ∧ (edgeTurn s).imgValid = s.imgValid
    ∧ (edgeTurn s).cfg = s.cfg ∧ (edgeTurn s).busyIn = s.busyIn ∧ (edgeTurn s).sched = s.sched := by
  unfold edgeTurn sendFrame sendMessage preflight readyTest echoTest finalTest sendBlock nextBlock enterNegotiation
  cases s.phase <;> dsimp only <;> (repeat' split) <;> simp

/-- What the engine's turn leaves alone. -/
theorem engineTurn_same (s : State) :
    (engineTurn s).img = s.img ∧ (engineTurn s).imgLen = s.imgLen ∧ (engineTurn s).imgValid = s.imgValid
    ∧ (engineTurn s).cfg = s.cfg ∧ (engineTurn s).busyIn = s.busyIn ∧ (engineTurn s).sched = s.sched := by
  obtain ⟨n, -, -, he⟩ | ⟨n, -, -, he⟩ | ⟨-, he⟩ := engineTurn_cases s <;> rw [he]
  · exact completeRead_same n s
  · simp
  · exact edgeTurn_same s

end Sys2Proof.Machine
end

