-- ==== Sys2Proof/Laws/Ops.lean ====
section
/-! SUPPORT. The end of an operation and the undefined contents it leaves, said once: everything `endOp` does, what a
drawing of free values leaves alone, and that it keeps the registers within their capacities. -/

namespace Sys2Proof.Machine

open Sys2Proof.Safety

@[simp] theorem freeBytes_length (n : Nat) (slot : Slot) (count : Nat) : (freeBytes n slot count).length = count := by
  simp [freeBytes]

/-- A drawing for one item keeps every register within its capacity, and its length in its length register. -/
theorem scramble_workingOk {w : Working} (h : workingOk w) (n : Nat) (slot : Slot) : workingOk (scramble n w slot) := by
  obtain ⟨⟨h1, h2⟩, ⟨h3, h4⟩, ⟨h5, h6⟩, h7, h8, h9⟩ := h
  cases slot <;> simp [scramble, workingOk, *]

/-- A received frame that is lost keeps its length, and so every register its capacity. -/
theorem loseRxbuf_workingOk {s : State} (h : workingOk s.w) : workingOk (loseRxbuf s).w := by
  obtain ⟨⟨h1, h2⟩, ⟨h3, h4⟩, ⟨h5, h6⟩, h7, h8, h9⟩ := h
  simp [workingOk, *]
  omega

/-- Drawings for several items do too. -/
theorem scramble_foldl_workingOk (lost : List Slot) {w : Working} (h : workingOk w) (n : Nat) :
    workingOk (lost.foldl (scramble n) w) := by
  induction lost generalizing w with
  | nil => exact h
  | cons slot lost ih => exact ih (scramble_workingOk h n slot)

/-- No drawing touches the latch of `READ`'s count. -/
theorem scramble_foldl_readCount (lost : List Slot) (w : Working) (n : Nat) :
    (lost.foldl (scramble n) w).readCount = w.readCount := by
  induction lost generalizing w with
  | nil => rfl
  | cons slot lost ih => rw [List.foldl_cons, ih]; cases slot <;> rfl

/-- Everything the end of an operation does; only the lost registers and the counter of drawings are not told. -/
theorem endOp_eq (k : Status) (res : Result) (lost : List Slot) (s : State) :
    endOp k res lost s = { s with
      phase := .idle, status := k, session := none, result := res, trace := s.trace ++ [.ended k]
      w := lost.foldl (scramble s.free) s.w, free := s.free + 1 } := rfl

end Sys2Proof.Machine
end

