-- ==== Sys2Proof/Laws/PerInstr.lean ====
section
/-! SUPPORT. The family TableRow: the bytes of every well-formed instruction begin with its row's fixed bits, as
spec/opcode_table.json gives them. One lemma per constructor. -/

namespace Sys2Proof.Laws.TableRow

-- One theorem at a time: elaborating all of them at once takes a thread, and its stack, for each.
set_option Elab.async false

/-- The row's bytes in spec/opcode_table.json, first byte first: the mask of each byte's fixed bits, and their value. -/
def row : Instr → List (Byte × Byte)
  | .sb9600Crc _ => [(0xFF, 0x10)]
  | .sbepChecksum _ => [(0xFF, 0x11)]
  | .write _ => [(0xFF, 0x20)]
  | .read _ => [(0xFF, 0x21)]
  | .avail => [(0xFF, 0x22)]
  | .flushIn => [(0xFF, 0x23)]
  | .flushOut => [(0xFF, 0x24)]
  | .waitForQuiet _ => [(0xFF, 0x25)]
  | .setBusy _ => [(0xFF, 0x26)]
  | .isBusy => [(0xFF, 0x27)]
  | .setBaud _ => [(0xFF, 0x28)]
  | .sb9600Send _ _ _ _ => [(0xFF, 0x30)]
  | .sb9600Check _ _ _ _ _ => [(0xFF, 0x31)]
  | .sbepEnter => [(0xFF, 0x40)]
  | .sbepLeave => [(0xFF, 0x41)]
  | .sbepSend _ _ => [(0xFF, 0x42)]
  | .sbepReceive => [(0xFF, 0x43)]
  | .boot => [(0xFF, 0x60)]
  | .sb9600Frame _ _ _ _ _ => [(0x00, 0x00), (0x00, 0x00), (0x00, 0x00), (0x00, 0x00), (0x00, 0x00)]
  | .sbepHeaderA _ _ => [(0x00, 0x00)]
  | .sbepHeaderB _ _ => [(0xF0, 0xF0), (0x00, 0x00)]
  | .sbepHeaderC _ _ _ => [(0x0F, 0x0F), (0x00, 0x00), (0x00, 0x00)]
  | .sbepHeaderD _ _ => [(0xFF, 0xFF), (0x00, 0x00), (0x00, 0x00)]
  | .ack => [(0xFF, 0x50)]
  | .trigger => [(0xFF, 0xFD)]
  | .triggerResponse => [(0xFF, 0xFD), (0xFF, 0xFF)]
  | .block _ => List.replicate 8 (0x00, 0x00)
  | .ready _ => List.replicate 8 (0x00, 0x00)
  | .finalAck => [(0xFF, 0x50)]

/-- The encoding has at least as many bytes as the row, and their fixed bits are the row's. -/
def Statement (i : Instr) : Prop :=
  i.wellFormed = true →
    (row i).length ≤ (encode i).length ∧ ∀ p ∈ (row i).zip (encode i), p.2 &&& p.1.1 = p.1.2

/-- A nibble of ones in the low half of a byte. -/
theorem low_ones (o : Nibble) : Machine.packNibbles o 0xF#4 &&& 0x0F = 0x0F := by
  simp only [Machine.packNibbles]; revert o; decide +kernel

/-- A nibble of ones in the high half of a byte. -/
theorem high_ones (l : Nibble) : Machine.packNibbles 0xF#4 l &&& 0xF0 = 0xF0 := by
  simp only [Machine.packNibbles]; revert l; decide +kernel

/-- A row without fixed bits. -/
theorem no_fixed_bits (data : Bytes) :
    ∀ p ∈ (List.replicate 8 ((0x00, 0x00) : Byte × Byte)).zip data, p.2 &&& p.1.1 = p.1.2 := by
  intro p hp
  have := List.of_mem_zip (a := p.1) (b := p.2) hp
  have h1 : p.1 = (0x00, 0x00) := List.eq_of_mem_replicate this.1
  simp [h1]

theorem sb9600Crc (s : Bytes) : Statement (.sb9600Crc s) :=
  fun _ => by simp [row, encode]

theorem sbepChecksum (s : Bytes) : Statement (.sbepChecksum s) :=
  fun _ => by simp [row, encode]

theorem write (s : Bytes) : Statement (.write s) :=
  fun _ => by simp [row, encode]

theorem read (n : Nat) : Statement (.read n) :=
  fun _ => by simp [row, encode]

theorem avail : Statement (.avail) :=
  fun _ => by simp [row, encode]

theorem flushIn : Statement (.flushIn) :=
  fun _ => by simp [row, encode]

theorem flushOut : Statement (.flushOut) :=
  fun _ => by simp [row, encode]

theorem waitForQuiet (d : Nat) : Statement (.waitForQuiet d) :=
  fun _ => by simp [row, encode]

theorem setBusy (v : Byte) : Statement (.setBusy v) :=
  fun _ => by simp [row, encode]

theorem isBusy : Statement (.isBusy) :=
  fun _ => by simp [row, encode]

theorem setBaud (r : Nat) : Statement (.setBaud r) :=
  fun _ => by simp [row, encode]

theorem sb9600Send (address subaddress value operation : Byte) :
    Statement (.sb9600Send address subaddress value operation) :=
  fun _ => by simp [row, encode]

theorem sb9600Check (f0 f1 f2 f3 f4 : Byte) : Statement (.sb9600Check f0 f1 f2 f3 f4) :=
  fun _ => by simp [row, encode]

theorem sbepEnter : Statement (.sbepEnter) :=
  fun _ => by simp [row, encode]

theorem sbepLeave : Statement (.sbepLeave) :=
  fun _ => by simp [row, encode]

theorem sbepSend (opcode : Byte) (data : Bytes) : Statement (.sbepSend opcode data) :=
  fun _ => by simp [row, encode]

theorem sbepReceive : Statement (.sbepReceive) :=
  fun _ => by simp [row, encode]

theorem boot : Statement (.boot) :=
  fun _ => by simp [row, encode]

theorem sb9600Frame (address subaddress value operation crc : Byte) :
    Statement (.sb9600Frame address subaddress value operation crc) :=
  fun _ => by simp [row, encode]

theorem sbepHeaderA (opcode dataLen : Nibble) : Statement (.sbepHeaderA opcode dataLen) :=
  fun _ => by simp [row, encode]

theorem sbepHeaderB (dataLen : Nibble) (opcode : Byte) : Statement (.sbepHeaderB dataLen opcode) :=
  fun _ => by simpa [row, encode] using high_ones dataLen

theorem sbepHeaderC (opcode : Nibble) (placeholder dataLen : Byte) :
    Statement (.sbepHeaderC opcode placeholder dataLen) :=
  fun _ => by simpa [row, encode] using low_ones opcode

theorem sbepHeaderD (opcode dataLen : Byte) : Statement (.sbepHeaderD opcode dataLen) :=
  fun _ => by simp [row, encode]

theorem ack : Statement (.ack) :=
  fun _ => by simp [row, encode, Machine.ackByte]

theorem trigger : Statement (.trigger) :=
  fun _ => by simp [row, encode, Machine.triggerByte]

theorem triggerResponse : Statement (.triggerResponse) :=
  fun _ => by simp [row, encode, Machine.triggerByte, Machine.triggerAckByte]

theorem block (data : Bytes) : Statement (.block data) := by
  intro h
  have h : data.length = 8 := by simpa [Instr.wellFormed] using h
  exact ⟨by simp [row, encode, h], no_fixed_bits data⟩

theorem ready (pattern : Bytes) : Statement (.ready pattern) := by
  intro h
  have h : pattern.length = 8 := by simpa [Instr.wellFormed] using h
  exact ⟨by simp [row, encode, h], no_fixed_bits pattern⟩

theorem finalAck : Statement (.finalAck) :=
  fun _ => by simp [row, encode, Machine.ackByte]

end Sys2Proof.Laws.TableRow
end

