-- ==== Sys2Proof/Tests/Slice0.lean ====
section
/-! SUPPORT. Tests: expected values come from spec/95_test_vectors.md (V<n>, P<n>) or are worked out by hand from the
rules. First the well-formedness checks, then decoding by words written out from the encodings, then one step of each
instruction, then for every statement with hypotheses a concrete case that meets them. -/

namespace Sys2Proof.Tests

open Sys2Proof.Machine Sys2Proof.Safety

-- One theorem at a time: elaborating all of them at once takes a thread, and its stack, for each.
set_option Elab.async false

/-! ### Well-formedness: one ill-formed term for each check -/

/-- R93: `SET_BUSY` takes one bit. -/
theorem test_wf_setBusy : (Instr.setBusy 0x02).wellFormed = false := by decide
/-- V23: 1200 is no rate. -/
theorem test_wf_setBaud : (Instr.setBaud 1200).wellFormed = false := by decide
/-- V46: 255 data bytes. -/
theorem test_wf_sbepSend : (Instr.sbepSend 0x01 (zeros 255)).wellFormed = false := by decide +kernel
/-- V46: 254 data bytes are the most there can be. -/
theorem test_wf_sbepSend_longest : (Instr.sbepSend 0x01 (zeros 254)).wellFormed = true := by decide +kernel
/-- R98: form A has no nibble of ones. -/
theorem test_wf_headerA_opcode : (Instr.sbepHeaderA 0xF 0x1).wellFormed = false := by decide
theorem test_wf_headerA_length : (Instr.sbepHeaderA 0x1 0xF).wellFormed = false := by decide
/-- R98: form B has a short length. -/
theorem test_wf_headerB : (Instr.sbepHeaderB 0xF 0x17).wellFormed = false := by decide
/-- R98: form C has a short opcode. -/
theorem test_wf_headerC : (Instr.sbepHeaderC 0xF 0x00 0x0F).wellFormed = false := by decide
/-- R103, R104: eight bytes. -/
theorem test_wf_block : (Instr.block (zeros 7)).wellFormed = false := by decide
theorem test_wf_ready : (Instr.ready (zeros 9)).wellFormed = false := by decide

/-! ### Decoding: every row, from bytes written out by hand (R92, R94, R98, R102 to R106; P1 to P7) -/

theorem test_decode_sb9600Crc :
    decode .command [0x10, 0x04, 0x00, 0x12, 0x05, 0x06] = .ok (.sb9600Crc [0x00, 0x12, 0x05, 0x06]) [] := by decide
theorem test_decode_sbepChecksum : decode .command [0x11, 0x01, 0xFF] = .ok (.sbepChecksum [0xFF]) [] := by decide
theorem test_decode_write :
    decode .command [0x20, 0x02, 0xAA, 0xBB, 0x99] = .ok (.write [0xAA, 0xBB]) [0x99] := by decide
theorem test_decode_read : decode .command [0x21, 0x05] = .ok (.read 5) [] := by decide
theorem test_decode_avail : decode .command [0x22] = .ok .avail [] := by decide
theorem test_decode_flushIn : decode .command [0x23] = .ok .flushIn [] := by decide
theorem test_decode_flushOut : decode .command [0x24] = .ok .flushOut [] := by decide
theorem test_decode_waitForQuiet : decode .command [0x25, 0x80, 0x01] = .ok (.waitForQuiet 128) [] := by decide
theorem test_decode_setBusy : decode .command [0x26, 0x00] = .ok (.setBusy 0x00) [] := by decide
theorem test_decode_isBusy : decode .command [0x27] = .ok .isBusy [] := by decide
/-- 9600 = 75 * 128. -/
theorem test_decode_setBaud : decode .command [0x28, 0x80, 0x4B] = .ok (.setBaud 9600) [] := by decide
theorem test_decode_sb9600Send :
    decode .command [0x30, 0x05, 0x60, 0x01, 0x57] = .ok (.sb9600Send 0x05 0x60 0x01 0x57) [] := by decide
theorem test_decode_sb9600Check :
    decode .command [0x31, 0x00, 0x12, 0x05, 0x06, 0x39] = .ok (.sb9600Check 0x00 0x12 0x05 0x06 0x39) [] := by decide
theorem test_decode_sbepEnter : decode .command [0x40] = .ok .sbepEnter [] := by decide
theorem test_decode_sbepLeave : decode .command [0x41] = .ok .sbepLeave [] := by decide
theorem test_decode_sbepSend :
    decode .command [0x42, 0x02, 0x02, 0xAA, 0xBB] = .ok (.sbepSend 0x02 [0xAA, 0xBB]) [] := by decide
theorem test_decode_sbepReceive : decode .command [0x43] = .ok .sbepReceive [] := by decide
theorem test_decode_boot : decode .command [0x60] = .ok .boot [] := by decide
/-- V46: codes that are no command. -/
theorem test_decode_unknown : decode .command [0x29] = .reject (.unknownCode 0x29) := by decide
theorem test_decode_sb9600Frame :
    decodeTableWord 40 0x0560015741 = some (.sb9600Frame 0x05 0x60 0x01 0x57 0x41) := by decide
/-- V26: `23` is opcode 2, length 3; on the port it is a command code. -/
theorem test_decode_headerA : decode (.wire .sbep) [0x23, 0xAA] = .ok (.sbepHeaderA 0x2 0x3) [0xAA] := by decide
theorem test_decode_headerA_word : decodeTableWord 8 0xE1 = some (.sbepHeaderA 0xE 0x1) := by decide
theorem test_decode_headerB : decodeTableWord 16 0xF217 = some (.sbepHeaderB 0x2 0x17) := by decide
theorem test_decode_headerC : decodeTableWord 24 0xEF000F = some (.sbepHeaderC 0xE 0x00 0x0F) := by decide
theorem test_decode_headerD : decodeTableWord 24 0xFF0F10 = some (.sbepHeaderD 0x0F 0x10) := by decide
theorem test_decode_ack : decodeTableWord 8 0x50 = some .ack := by decide
theorem test_decode_trigger : decodeTableWord 8 0xFD = some .trigger := by decide
theorem test_decode_triggerResponse : decodeTableWord 16 0xFDFF = some .triggerResponse := by decide
theorem test_decode_block : decodeTableWord 64 0xDEADBEEF01000000
    = some (.block [0xDE, 0xAD, 0xBE, 0xEF, 0x01, 0x00, 0x00, 0x00]) := by decide
theorem test_decode_ready : decodeTableWord 64 0x00FF00FF00FF00FF = some (.ready readyAlternating) := by decide
theorem test_decode_finalAck : decodeLine (expectedFormat .btFinalWait) [0x50] = some .finalAck := by decide

/-! ### Steps -/

/-- The configuration of spec/95_test_vectors.md, with `QUIET_CHUNK` 2 (V22). -/
def cfg : Config :=
  { table := sb9600Table, readySet := [readyZeros, readyAlternating], bootBaud := 2400, busyPin := .dtr
    readTimeout := 7, spinInterval := 1, pollInterval := 1, quietChunk := 2, deadline := none }

/-- The state after reset with an idle peer, a chosen queue, and turns to come. -/
def start (rxq : Bytes) (sched : List Turn) : State :=
  { State.reset with cfg := cfg, timeout := 7, busyIn := false, rxq := rxq, sched := sched }

/-- The same in the middle of an operation. -/
def mid (p : Phase) (rxq : Bytes) (sched : List Turn) : State := { start rxq sched with phase := p }

/-- The same in a phase of `BOOT` with a session. -/
def boot (p : Phase) (image rxq : Bytes) (sched : List Turn) : State :=
  { mid p rxq sched with session := some { bootImage := some image, baud := 2400, readySet := cfg.readySet } }

/-- The state in which V9's frame has been sent. -/
def sent (p : Phase) (rxq : Bytes) (sched : List Turn) : State := buildFrame 0x05 0x60 0x01 0x57 (mid p rxq sched)

/-- The next state of an outcome; the start for any other. -/
def next (o : Host.Outcome State Fault Refusal) : State :=
  match o with
  | .next s => s
  | .fault _ => start [] []
  | .refused _ => start [] []

/-- V9's frame. -/
def frame : Bytes := [0x05, 0x60, 0x01, 0x57, 0x41]

/-- V8's block. -/
def blk : Bytes := [0xDE, 0xAD, 0xBE, 0xEF, 0x01, 0x00, 0x00, 0x00]

/-- V8's image. -/
def image : Bytes := zeros 0x80 ++ [0xDE, 0xAD, 0xBE, 0xEF, 0x01]

/-- The state in which V8's block has been sent and its echo is awaited. -/
def echoing (rxq : Bytes) : State :=
  { boot .btBlockEcho image rxq [] with w := { Working.reset with blk := blk } }

/-- V4, P7. -/
theorem test_sb9600Crc :
    (next (exec (.sb9600Crc [0x00, 0x12, 0x05, 0x06]) (start [] []))).result = .byte 0x39 := by decide
/-- V19. -/
theorem test_sbepChecksum :
    (next (exec (.sbepChecksum [0x23, 0xAA, 0xBB]) (start [] []))).result = .byte 0x77 := by decide
theorem test_write : (next (exec (.write [0x12, 0x34]) (start [0x99] []))).wire = [0x12, 0x34] := by decide
/-- V20. -/
theorem test_read_arrives :
    (next (exec (.read 5) (start [0x05, 0x60, 0x01] [.env (.rx 0x57), .env (.rx 0x41), .engine]))).trace
      = [.rx frame, .ended .ok] := by decide
theorem test_read_short :
    (next (exec (.read 5) (start [0x05, 0x60, 0x01] [.env .timeout]))).result = .bytes [0x05, 0x60, 0x01] := by decide
/-- V21. -/
theorem test_avail : (next (exec .avail (start [0xFF, 0x00] []))).result = .count 2 := by decide
theorem test_flushIn :
    (next (exec .flushIn (start [0xFF, 0x00] []))).trace = [.drop [0xFF, 0x00], .ended .ok] := by decide
theorem test_flushOut : (next (exec .flushOut (start [0xFF] []))).rxq = [0xFF] := by decide
/-- V22. -/
theorem test_waitForQuiet :
    (next (exec (.waitForQuiet 1) (start [0xAA, 0xBB, 0xCC] [.engine, .env .timeout, .env .timeout]))).trace
      = [.drop [0xAA, 0xBB], .drop [0xCC], .drop [], .ended .ok] := by decide
theorem test_waitForQuiet_timeout :
    (next (exec (.waitForQuiet 1) (start [0xAA, 0xBB, 0xCC] [.engine, .env .timeout, .env .timeout]))).timeout = 7 := by
  decide
/-- V23. -/
theorem test_setBusy : (next (exec (.setBusy 0x01) (start [] []))).busyOut = true := by decide
theorem test_isBusy :
    (next (exec .isBusy { start [] [] with busyOut := true })).result = .bit false := by decide
theorem test_setBaud : (next (exec (.setBaud 2400) (start [0x12, 0x34] []))).rxq = [0x12, 0x34] := by decide
theorem test_setBaud_refused : (next (exec (.setBaud 1200) (start [] []))).trace = [] := by decide
/-- P1. -/
theorem test_sb9600Send :
    (next (exec (.sb9600Send 0x05 0x60 0x01 0x57) (start [0xAA] [.engine, .engine, .line frame]))).trace
      = [.busy true, .drop [0xAA], .tx frame, .rx frame, .busy false, .ended .ok] := by decide
/-- V32: a short read-back leaves BUSY asserted. -/
theorem test_sb9600Send_mismatch :
    (next (exec (.sb9600Send 0x05 0x60 0x01 0x57)
      (start [] [.engine, .engine, .line [0x05, 0x60, 0x01], .env .timeout]))).busyOut = true := by decide
/-- V31. -/
theorem test_sb9600Check :
    (next (exec (.sb9600Check 0x05 0x60 0x01 0x57 0x40) (start [] []))).result
      = .checked false 0x05 0x60 0x01 0x57 := by decide
/-- V34. -/
theorem test_sbepEnter : (next (exec .sbepEnter (start [] [.env (.rx 0x50)]))).sbepMode = true := by decide
theorem test_sbepEnter_refused :
    (next (exec .sbepEnter (start [] [.env .timeout]))).trace
      = [.busy true, .rx [], .busy false, .ended .notAcknowledged] := by decide
/-- V37. -/
theorem test_sbepLeave :
    (next (exec .sbepLeave { start [] [.env (.busy false)] with busyOut := true, busyIn := true })).trace
      = [.busy false, .ended .ok] := by decide
/-- V35. -/
theorem test_sbepSend :
    (next (exec (.sbepSend 0x02 [0xAA, 0xBB]) (start [] [.engine, .line [0x23, 0xAA, 0xBB, 0x77, 0x50]]))).trace
      = [.drop [], .tx [0x23, 0xAA, 0xBB, 0x77], .rx [0x23, 0xAA, 0xBB, 0x77], .rx [0x50], .ended .ok] := by decide
theorem test_sbepSend_mismatch :
    (next (exec (.sbepSend 0x02 [0xAA, 0xBB]) (start [] [.engine, .line [0x23, 0xAA, 0xBB, 0x76, 0x50]]))).rxq
      = [0x50] := by decide
/-- V36, V30. -/
theorem test_sbepReceive :
    (next (exec .sbepReceive (start [0xF2, 0x17, 0x01, 0xF5, 0x99] []))).trace
      = [.rx [0xF2], .rx [0x17], .rx [0x01, 0xF5], .ended .ok] := by decide
/-- P7, with V30's frame: `RXLEN` is the frame's length. -/
theorem test_sbepReceive_rxlen :
    (next (exec .sbepReceive (start [0xF2, 0x17, 0x01, 0xF5, 0x99] []))).w.rxlen = 4#9 := by decide
/-- V28. -/
theorem test_sbepReceive_zero_length : (next (exec .sbepReceive (start [0x20, 0xDF] []))).rxq = [0xDF] := by decide
/-- P4 without its retry. -/
theorem test_boot :
    (next (exec .boot (loadImage image (start [0x33] (honestBoot readyZeros image))))).trace
      = [.baud 460, .drop [0x33], .rx (zeros 8), .baud 2400, .drop [], .tx [0xFD], .rx [0xFD, 0xFF], .tx blk,
          .rx (blk ++ blk), .baud 115200, .drop [], .rx [0x50], .ended .ok] := by decide +kernel
/-- V13. -/
theorem test_boot_wrong_final_byte :
    (next (exec .boot (loadImage [] (start [] [.engine, .line (zeros 8), .line [0xFD, 0xFF], .line [0x51]])))).status
      = .bootstrapFailed := by decide +kernel

/-- V32 row 1: one bit wrong. -/
theorem test_sb9600Frame :
    (next (exec (.sb9600Frame 0x05 0x60 0x01 0xD7 0x41) (sent .sbReadback [] []))).status
      = .transmitMismatch := by decide
/-- V36: the phases of the four header forms (R47). -/
theorem test_sbepHeaderA : (next (exec (.sbepHeaderA 0x2 0x3) (mid .epRxHdr [] []))).phase = .epRxPayload := by decide
theorem test_sbepHeaderB :
    (next (exec (.sbepHeaderB 0x2 0x17) (mid .epRxHdr [] []))).w.rxbuf = [0xF2, 0x17] := by decide
theorem test_sbepHeaderC :
    (next (exec (.sbepHeaderC 0xE 0x00 0x0F) (mid .epRxHdr [] []))).trace = [.rx [0xEF], .rx [0x00], .rx [0x0F]] := by
  decide
theorem test_sbepHeaderD : (next (exec (.sbepHeaderD 0x0F 0x0F) (mid .epRxHdr [] []))).w.rxlen = 3#9 := by decide
theorem test_ack : (next (exec .ack (mid .epAck [] []))).status = .ok := by decide
/-- V41: the echo of the trigger alone is no answer. -/
theorem test_trigger : (next (exec .trigger (boot .btNegotiate image [] []))).phase = .btNegotiate := by decide
theorem test_triggerResponse :
    (next (exec .triggerResponse (boot .btNegotiate image [] []))).phase = .btBlockSend := by decide +kernel
/-- V42: the echo's second half with a wrong last byte. -/
theorem test_block :
    (next (exec (.block [0xDE, 0xAD, 0xBE, 0xEF, 0x01, 0x00, 0x00, 0x01])
      (echoing blk))).status = .echoMismatch := by decide
/-- V12. -/
theorem test_ready :
    (next (exec (.ready readyNonMember) (boot .btReadyWait image [] []))).trace
      = [.rx readyNonMember, .log readyNonMember] := by decide
theorem test_finalAck : (next (exec .finalAck (boot .btFinalWait image [] []))).status = .ok := by decide
/-- V47: `BOOT` right after reset finds no image. -/
theorem test_first_step : (next (step (State.reset.withFetchWord 8 0x60))).status = .bootloaderFileError := by decide
/-- 93 row 20. -/
theorem test_host_fault : step (mid .tRead [] [.unload]) = .fault .imageChangedDuringOperation := rfl

/-! ### Witnesses: for each statement with hypotheses, concrete cases that meet them -/

theorem test_witness_CommandDecodesFromItsEncoding : (Instr.setBaud 115200).port = .command := by decide

theorem test_witness_WireFormatDecodesFromItsEncoding :
    ((Instr.sbepHeaderA 0xE 0xE).port = .wire .sbep ∧ (Instr.sbepHeaderA 0xE 0xE).wellFormed = true)
    ∧ (Instr.block blk).port = .wire .block ∧ (Instr.block blk).wellFormed = true := by decide

theorem test_witness_SbepHeaderIsMadeOfTheBytesRead :
    decode (.wire .sbep) [0xFF, 0x03, 0x02, 0x55] = .ok (.sbepHeaderD 0x03 0x02) [0x55] := by decide

/-- V46. -/
theorem test_witness_RefusedCommandsChangeNothing :
    ((0x61 : Byte).toNat ∉ commandCodes ∧ (start [] [.host [0x61]]).sched = .host (0x61 :: []) :: [])
    ∧ (Instr.setBaud 19200).port = .command ∧ (Instr.setBaud 19200).wellFormed = false := by decide

theorem test_witness_CommandsWhileBusyChangeNothing :
    Instr.avail.port = .command ∧ (mid .sbWaitFree [] []).phase ≠ .idle := by decide

theorem test_witness_StepRunsTheDecodedInstruction :
    ((start [] [.host [0x22]]).sched = .host [0x22] :: [] ∧ decode .command [0x22] = .ok .avail [])
    ∧ ((boot .btFinalWait image [] [.line [0x50]]).sched = .line [0x50] :: []
      ∧ decodeLine (expectedFormat (boot .btFinalWait image [] [.line [0x50]]).phase) [0x50] = some .finalAck)
    ∧ State.reset.phase = .idle ∧ decodeTableWord 8 0x60 = some .boot := by decide

theorem test_witness_CrcLawsOfTheTable :
    ([0x05, 0x60] : Bytes).length = ([0x05, 0x69] : Bytes).length ∧ (0x60 : Byte) ≠ 0x69 := by decide

theorem test_witness_SbepChecksumValidityAndRoundTrip : sbepChecksum ([0x23, 0xAA, 0xBB] ++ [0x77]) = 0x00 := by decide

theorem test_witness_FrameCheckRoundTrip :
    (start [] []).phase = .idle
    ∧ sb9600Frame (start [] []).cfg.table 0x05 0x60 0x01 0x57 = [0x05, 0x60, 0x01, 0x57, 0x41] := by decide

/-- The corners of the four forms: V24, V25, V26. -/
theorem test_witness_SbepHeaderForms :
    ((0x0E : Byte).toNat < 0xF ∧ 1 ≤ 0xE ∧ 0xE < 0xF) ∧ 0xF ≤ (0x0F : Byte).toNat ∧ 0xF ≤ 255 ∧ 0xF ≤ 0xF := by decide

theorem test_witness_SbepFrameParsesBack :
    (zeros 254).length ≤ 254 ∧ ((0x0E : Byte).toNat < 15 ∧ (zeros 13).length ≤ 13)
    ∧ (15 ≤ (0x0F : Byte).toNat ∨ 14 ≤ (zeros 0).length) ∧ (15 ≤ (0x00 : Byte).toNat ∨ 14 ≤ (zeros 14).length) := by
  decide +kernel

theorem test_witness_LastBlockIsPaddedToEight : 0x80 < image.length := by decide +kernel

theorem test_witness_PureCommandsComplete : (start [] []).phase = .idle := by decide

theorem test_witness_TransportCommandsComplete : (start [0xFF, 0x00] []).phase = .idle := by decide

theorem test_witness_ControlLineCommandsComplete :
    (start [] []).phase = .idle ∧ ((0x00 : Byte) = 0 ∨ (0x00 : Byte) = 1) ∧ 115200 ∈ [460, 2212, 2400, 9600, 115200] := by
  decide

/-- V20: in full, short, and held. -/
theorem test_witness_ReadReturnsWhatArrived :
    (start [0xAA] []).phase = .idle
    ∧ (5 ≤ [0x05, 0x60, 0x01].length + [0x57, 0x41].length
      ∧ (start [0x05, 0x60, 0x01] [.env (.rx 0x57), .env (.rx 0x41), .engine]).sched
        = arrivals [0x57, 0x41] ++ .engine :: [])
    ∧ (0 + [0x57].length < 2 ∧ (start [] [.env (.rx 0x57), .env .timeout]).sched = arrivals [0x57] ++ .env .timeout :: [])
    ∧ 0 + ([] : Bytes).length < 1 ∧ (start [] []).sched = arrivals [] := by decide

theorem test_witness_WaitForQuietCompletes : (start [0xAA] []).phase = .idle ∧ 1 ≤ (start [0xAA] []).cfg.quietChunk := by
  decide

/-- V22: ended, and held. -/
theorem test_witness_WaitForQuietLeavesAnEmptyQueue :
    ((start [0xAA] [.env .timeout, .env .timeout]).phase = .idle ∧ 1 ≤ cfg.quietChunk ∧ cfg.deadline = none)
    ∧ (∃ t, exec (.waitForQuiet 1) (start [0xAA] [.env .timeout, .env .timeout]) = .next t ∧ t.phase = .idle)
    ∧ ∃ t, exec (.waitForQuiet 1) (start [0xAA] []) = .next t ∧ t.phase = .tQuiet :=
  ⟨by decide, ⟨_, rfl, by decide⟩, ⟨_, rfl, by decide⟩⟩

theorem test_witness_Sb9600SendOnAnHonestBus :
    (start [0xAA] [.engine, .engine, .line frame, .engine]).phase = .idle
    ∧ (start [0xAA] [.engine, .engine, .line frame, .engine]).busyIn = false
    ∧ (start [0xAA] [.engine, .engine, .line frame, .engine]).sched
      = .engine :: .engine :: .line (sb9600Frame cfg.table 0x05 0x60 0x01 0x57) :: .engine :: [] := by decide

/-- V9, V32, V33: the two holds, the two ends; then the peer that never lets go, and the two holds with either level. -/
theorem test_witness_Sb9600SendInEveryEnvironment :
    ((start [] []).phase = .idle ∧ (start [] []).cfg.deadline = none)
    ∧ (∃ t, exec (.sb9600Send 5 0x60 1 0x57) { start [] [] with busyIn := true } = .next t ∧ t.phase = .sbWaitFree)
    ∧ (∃ t, exec (.sb9600Send 5 0x60 1 0x57) (start [] [.engine, .host []]) = .next t ∧ t.phase = .sbXmit)
    ∧ (∃ t, exec (.sb9600Send 5 0x60 1 0x57) (start [] []) = .next t ∧ t.phase = .sbReadback)
    ∧ (∃ t, exec (.sb9600Send 5 0x60 1 0x57) (start [] [.engine, .engine, .env (.busy true), .line frame]) = .next t
      ∧ t.phase = .sbWaitRelease)
    ∧ (∃ t, exec (.sb9600Send 5 0x60 1 0x57) (start [] [.engine, .engine, .line frame]) = .next t ∧ t.status = .ok)
    ∧ (∃ t, exec (.sb9600Send 5 0x60 1 0x57) (start [] [.engine, .engine, .env .timeout]) = .next t
      ∧ t.status = .transmitMismatch)
    ∧ (Turn.env (.busy false) ∉ [Turn.engine, .line frame, .env (.busy true)]
      ∧ ∃ t, exec (.sb9600Send 5 0x60 1 0x57)
        { start [] [.engine, .line frame, .env (.busy true)] with busyIn := true } = .next t ∧ t.wire = [])
    ∧ (sent .sbWaitFree [] [.engine]).sched = .engine :: [] ∧ (sent .sbWaitFree [] [.engine]).phase = .sbWaitFree
    ∧ (sent .sbWaitRelease [] [.engine]).phase = .sbWaitRelease ∧ (sent .sbWaitFree [] [.engine]).busyIn = false
    ∧ ({ sent .sbWaitRelease [] [.engine] with busyIn := true } : State).phase = .sbWaitRelease :=
  ⟨by decide, ⟨_, rfl, by decide⟩, ⟨_, rfl, by decide⟩, ⟨_, rfl, by decide⟩, ⟨_, rfl, by decide⟩, ⟨_, rfl, by decide⟩,
    ⟨_, rfl, by decide⟩, ⟨by decide, ⟨_, rfl, by decide⟩⟩, by decide, by decide, by decide, by decide, by decide⟩

/-- V34: the stale bytes, and the three ends of a run. -/
theorem test_witness_SbepEnterTakesOneByte :
    ((start [0x50] [.engine]).phase = .idle ∧ (start [0x50] [.engine]).rxq = 0x50 :: []
      ∧ (start [0x00, 0x50] [.engine]).rxq = 0x00 :: [0x50] ∧ (start [0x50] [.engine]).sched = .engine :: []
      ∧ (start [] []).cfg.deadline = none)
    ∧ (∃ t, exec .sbepEnter (start [] []) = .next t ∧ t.phase = .epEnterAck)
    ∧ (∃ t, exec .sbepEnter (start [] [.env (.rx 0x50)]) = .next t ∧ t.status = .ok)
    ∧ ∃ t, exec .sbepEnter (start [] [.env .timeout]) = .next t ∧ t.status = .notAcknowledged :=
  ⟨by decide, ⟨_, rfl, by decide⟩, ⟨_, rfl, by decide⟩, ⟨_, rfl, by decide⟩⟩

/-- V37. -/
theorem test_witness_SbepLeaveReleasesTheBus :
    ((start [] [.engine]).phase = .idle ∧ (start [] [.engine]).busyIn = false ∧ (start [] [.engine]).sched = .engine :: [])
    ∧ (({ start [] [] with busyIn := true }).busyIn = true ∧ (start [] []).sched = [])
    ∧ (∃ t, exec .sbepLeave { start [] [] with busyIn := true } = .next t ∧ t.phase = .epLeaveWait)
    ∧ ∃ t, exec .sbepLeave (start [] []) = .next t ∧ t.phase = .idle :=
  ⟨by decide, by decide, ⟨_, rfl, by decide⟩, ⟨_, rfl, by decide⟩⟩

theorem test_witness_SbepSendOnAnHonestLine :
    (start [0x99] [.engine, .line [0x23, 0xAA, 0xBB, 0x77], .line [0x50]]).phase = .idle
    ∧ ([0xAA, 0xBB] : Bytes).length ≤ 254
    ∧ (start [0x99] [.engine, .line [0x23, 0xAA, 0xBB, 0x77], .line [0x50]]).sched
      = .engine :: .line (sbepFrame 0x02 [0xAA, 0xBB]) :: .line [0x50] :: [] := by decide

/-- V35. -/
theorem test_witness_SbepSendInEveryEnvironment :
    ((start [] []).phase = .idle ∧ (zeros 254).length ≤ 254 ∧ (start [] []).cfg.deadline = none)
    ∧ (∃ t, exec (.sbepSend 0x02 [0xAA]) (start [] [.host []]) = .next t ∧ t.phase = .epXmit)
    ∧ (∃ t, exec (.sbepSend 0x02 [0xAA]) (start [] []) = .next t ∧ t.phase = .epReadback)
    ∧ (∃ t, exec (.sbepSend 0x02 [0xAA]) (start [] [.engine, .line [0x22, 0xAA, 0x33]]) = .next t ∧ t.phase = .epAck)
    ∧ (∃ t, exec (.sbepSend 0x02 [0xAA]) (start [] [.engine, .line [0x22, 0xAA, 0x33, 0x50]]) = .next t
      ∧ t.status = .ok ∧ t.phase = .idle)
    ∧ (∃ t, exec (.sbepSend 0x02 [0xAA]) (start [] [.engine, .line [0x22, 0xAA, 0x32]]) = .next t
      ∧ t.status = .transmitMismatch)
    ∧ ∃ t, exec (.sbepSend 0x02 [0xAA]) (start [] [.engine, .line [0x22, 0xAA, 0x33, 0x51]]) = .next t
      ∧ t.status = .notAcknowledged :=
  ⟨by decide +kernel, ⟨_, rfl, by decide⟩, ⟨_, rfl, by decide⟩, ⟨_, rfl, by decide⟩, ⟨_, rfl, by decide⟩,
    ⟨_, rfl, by decide⟩, ⟨_, rfl, by decide⟩⟩

/-- V30, V28, V29. -/
theorem test_witness_SbepReceiveAgreesWithTheParser :
    ((start [0xF2, 0x17, 0x01, 0xF5, 0x99] []).phase = .idle ∧ (start [0xF2, 0x17, 0x01, 0xF5, 0x99] []).sched = [])
    ∧ sbepParse (start [0xF2, 0x17, 0x01, 0xF5, 0x99] []).rxq = .frame 0x17 [0x01] [0x99]
    ∧ sbepParse (start [0x20, 0xDF] []).rxq = .bad [0xDF]
    ∧ sbepParse (start [0xEF, 0x00, 0x0F] []).rxq = .short := by decide

/-- V36, V29: its bytes arriving by turns, a wrong checksum, silence, and a header alone. -/
theorem test_witness_SbepReceiveAgreesWithTheParser_turns :
    ((start [] []).phase = .idle ∧ (start [] []).cfg.deadline = none)
    ∧ (∃ t, exec .sbepReceive (start [] [.line [0xF2], .line [0x17, 0x01, 0xF5]]) = .next t ∧ t.phase = .idle
      ∧ t.status = .ok ∧ t.w.opcode = 0x17)
    ∧ (∃ t, exec .sbepReceive (start [] [.line [0x11, 0xEF]]) = .next t ∧ t.phase = .idle
      ∧ t.status = .checksumFailure)
    ∧ (∃ t, exec .sbepReceive (start [] [.line [0xF2], .env .timeout]) = .next t ∧ t.phase = .idle
      ∧ t.status = .checksumFailure)
    ∧ ∃ t, exec .sbepReceive (start [] [.line [0xF2]]) = .next t ∧ t.phase = .epRxExtop :=
  ⟨by decide, ⟨_, rfl, by decide⟩, ⟨_, rfl, by decide⟩, ⟨_, rfl, by decide⟩, ⟨_, rfl, by decide⟩⟩

/-- V36: silence after `F2`. -/
theorem test_witness_ShortReadFailsReceive :
    inReceive (setRxbuf [0xF2] (mid .epRxExtop [] [.env .timeout])).phase = true
    ∧ pendingRead (setRxbuf [0xF2] (mid .epRxExtop [] [.env .timeout])) = some 1
    ∧ (setRxbuf [0xF2] (mid .epRxExtop [] [.env .timeout])).rxq.length < 1
    ∧ (setRxbuf [0xF2] (mid .epRxExtop [] [.env .timeout])).sched = .env .timeout :: [] := by decide

/-- V38: no image, and one byte too many. `BOOT` cut before its preflight, and a preflight that passes. -/
theorem test_witness_BootPreflightFailsFast :
    ((start [] [.engine]).phase = .idle ∧ (start [] [.engine]).imgValid = false
      ∧ (start [] [.engine]).sched = .engine :: [])
    ∧ (4096 < ({ start [] [] with imgLen := 4097#32, imgValid := true }).imgLen.toNat ∧ (start [] []).sched = [])
    ∧ (start [] [.host [0x22]]).sched = .host [0x22] :: []
    ∧ (mid .btPreflight [] [.engine]).phase = .btPreflight
    ∧ ({ mid .btPreflight [] [.engine] with imgLen := 4096#32, imgValid := true }).imgLen.toNat ≤ 4096 := by
  decide

theorem test_witness_BootSendsTheWholeImage :
    (loadImage image (start [] (honestBoot readyZeros image))).imgValid = true
    ∧ (loadImage image (start [] (honestBoot readyZeros image))).phase = .idle
    ∧ (loadImage image (start [] (honestBoot readyZeros image))).imgLen.toNat ≤ 4096
    ∧ image = memRead (loadImage image (start [] [])).img (loadImage image (start [] [])).imgLen.toNat 0
        (loadImage image (start [] [])).imgLen.toNat
    ∧ readyZeros ∈ cfg.readySet ∧ readyZeros.length = 8
    ∧ (loadImage image (start [] (honestBoot readyZeros image))).sched = honestBoot readyZeros image ++ [] := by
  decide +kernel

/-- Turns that take `BOOT` past ready detection and the trigger. -/
def toBlocks : List Turn := [.engine, .line (zeros 8), .line [0xFD, 0xFF]]

/-- V38, V42, V43: the four endings. -/
theorem test_witness_BootEndingsLeaveTheRate :
    ((start [] []).phase = .idle ∧ (start [] []).cfg.deadline = none)
    ∧ (∃ t, exec .boot (start [] []) = .next t ∧ t.phase = .idle ∧ t.status = .bootloaderFileError)
    ∧ (∃ t, exec .boot (loadImage image (start [] (toBlocks ++ [.engine, .line (zeros 16)]))) = .next t ∧ t.phase = .idle
      ∧ t.status = .echoMismatch)
    ∧ (∃ t, exec .boot (loadImage [] (start [] (toBlocks ++ [.line [0x51]]))) = .next t ∧ t.phase = .idle
      ∧ t.status = .bootstrapFailed)
    ∧ ∃ t, exec .boot (loadImage [] (start [] (toBlocks ++ [.line [0x50]]))) = .next t ∧ t.phase = .idle
      ∧ t.status = .ok :=
  ⟨by decide, ⟨_, rfl, by decide⟩, ⟨_, rfl, by decide +kernel⟩, ⟨_, rfl, by decide +kernel⟩, ⟨_, rfl, by decide +kernel⟩⟩

theorem test_witness_BootFlushesAfterEveryRateChange :
    (start [] []).phase = .idle ∧ ∃ t, exec .boot (start [] []) = .next t := ⟨by decide, ⟨_, rfl⟩⟩

theorem test_witness_BootNeverSamplesBusyIn :
    (start [] []).phase = .idle ∧ ∃ t, exec .boot (start [] []) = .next t := ⟨by decide, ⟨_, rfl⟩⟩

theorem test_witness_OldWorkingRegistersAreNeverRead :
    (start [] []).phase = .idle ∧ ∃ t, exec .sbepReceive (start [] []) = .next t := ⟨by decide, ⟨_, rfl⟩⟩

theorem test_witness_StatusesEachCommandCanEndWith :
    (Instr.sbepEnter.port = .command ∧ Instr.sbepEnter.wellFormed = true ∧ (start [] []).phase = .idle
      ∧ (start [] []).cfg.deadline = none)
    ∧ (∃ t, exec .sbepEnter (start [] [.env .timeout]) = .next t ∧ t.phase = .idle)
    ∧ mayHold .avail = false :=
  ⟨by decide, ⟨_, rfl, by decide⟩, by decide⟩

theorem test_witness_OwnershipOfBusyOut :
    ((start [] []).phase = .idle ∧ (start [] []).cfg.deadline = none)
    ∧ (∃ t, exec (.sb9600Send 5 0x60 1 0x57) (start [] [.engine, .engine, .env .timeout]) = .next t ∧ t.phase = .idle)
    ∧ (∃ t, exec .sbepEnter (start [] [.env .timeout]) = .next t ∧ t.phase = .idle)
    ∧ ∃ t, exec .sbepLeave (start [] []) = .next t :=
  ⟨by decide, ⟨_, rfl, by decide⟩, ⟨_, rfl, by decide⟩, ⟨_, rfl⟩⟩

/-- The four clauses: no deadline; a plain hold; `SBEP_ENTER`; `WAIT_FOR_QUIET` (V48). -/
theorem test_witness_DeadlineCancelsAHold :
    ((start [] [.deadline]).sched = .deadline :: [] ∧ (start [] [.deadline]).cfg.deadline = none)
    ∧ (({ cfg with deadline := some 9 }).deadline ≠ none ∧ isHold .sbWaitFree = true ∧ Phase.sbWaitFree ≠ .epEnterAck
      ∧ Phase.sbWaitFree ≠ .tQuiet)
    ∧ (mid .epEnterAck [] [.deadline]).phase = .epEnterAck ∧ (mid .tQuiet [] [.deadline]).phase = .tQuiet := by decide

theorem test_witness_IdleEngineOnlyQueuesTheLine :
    Instr.ack.port = .wire .ack ∧ (start [0x99] []).phase = .idle := by decide

theorem test_witness_AckCompletesTheWaitingOperation :
    (mid .epEnterAck [] []).rxq = [] ∧ (mid .epEnterAck [] []).phase = .epEnterAck ∧ (mid .epAck [] []).phase = .epAck := by
  decide

/-- V9 and V32 row 1. -/
theorem test_witness_FrameAtTheReadBack :
    (sent .sbReadback [] []).phase = .sbReadback ∧ (sent .sbReadback [] []).rxq = []
    ∧ [0x05, 0x60, 0x01, 0x57, 0x41] = frameBytes (sent .sbReadback [] []).w.frame
    ∧ [0x05, 0x60, 0x01, 0xD7, 0x41] ≠ frameBytes (sent .sbReadback [] []).w.frame := by decide

theorem test_witness_HeaderAtTheStartOfReceive :
    (Instr.sbepHeaderC 0xE 0x00 0x0F).port = .wire .sbep ∧ (Instr.sbepHeaderC 0xE 0x00 0x0F).wellFormed = true
    ∧ (mid .epRxHdr [] []).phase = .epRxHdr ∧ (mid .epRxHdr [] []).rxq = [] ∧ (0xE : Nibble) ≠ 0xF ∧ (0x0 : Nibble) ≠ 0xF := by
  decide

/-- V44: an image with a block, and one of exactly 0x80 bytes. V41: a mis-paired read, and `FD` cut short. -/
theorem test_witness_TriggerResponseStartsTheTransfer :
    (boot .btNegotiate image [] []).phase = .btNegotiate ∧ (boot .btNegotiate image [] []).rxq = []
    ∧ 0x80 < (sessionImage (boot .btNegotiate image [] [])).length
    ∧ (sessionImage (boot .btNegotiate (zeros 0x80) [] [])).length ≤ 0x80
    ∧ ((boot .btNegotiate image [0x00, 0xFD, 0xFF] [.engine]).rxq = 0x00 :: 0xFD :: [0xFF]
      ∧ ([0x00, 0xFD] : Bytes) ≠ [0xFD, 0xFF])
    ∧ (boot .btNegotiate image [0xFD] [.env .timeout]).rxq.length < 2 := by decide +kernel

/-- V11, V12. V39: the first and the second of two windows, and the byte left of a third. -/
theorem test_witness_ReadyPatternDecidesDetection :
    (boot .btReadyWait image [] []).phase = .btReadyWait ∧ (boot .btReadyWait image [] []).rxq = []
    ∧ (boot .btReadyWait image [] []).session
      = some { bootImage := some image, baud := 2400, readySet := [readyZeros, readyAlternating] }
    ∧ readyAlternating.length = 8 ∧ readyNonMember.length = 8
    ∧ readyAlternating ∈ [readyZeros, readyAlternating] ∧ readyNonMember ∉ [readyZeros, readyAlternating]
    ∧ (boot .btReadyWait image ([0xFF] ++ zeros 15) [.engine]).rxq = ([0xFF] ++ zeros 7) ++ zeros 8
    ∧ [0xFF] ++ zeros 7 ∉ [readyZeros, readyAlternating]
    ∧ (boot .btReadyWait image (zeros 9) [.engine]).rxq = zeros 8 ++ [0x00] ∧ zeros 8 ∈ [readyZeros, readyAlternating]
    ∧ (boot .btReadyWait image (zeros 7) [.engine]).rxq.length < 8
    ∧ (boot .btReadyWait image (zeros 9) [.engine]).sched = .engine :: [] := by
  decide +kernel

/-- V42: the first half; the second half of the last block, of another block, and a wrong one; then a surplus byte, a
leftover byte before the echo, and an echo without the padding. -/
theorem test_witness_BlockAtTheEcho :
    ((echoing []).phase = .btBlockEcho ∧ blk.length = 8 ∧ (echoing []).rxq = [] ∧ (echoing blk).rxq = blk)
    ∧ blk ++ blk = (echoing blk).w.blk ++ (echoing blk).w.blk
    ∧ (sessionImage { echoing blk with cursor := 0x80 }).length ≤ ((0x80 : BitVec 13) + 8).toNat
    ∧ ((0x78 : BitVec 13) + 8).toNat < (sessionImage (echoing blk)).length
    ∧ blk ++ zeros 8 ≠ (echoing blk).w.blk ++ (echoing blk).w.blk
    ∧ (echoing (blk ++ blk ++ [0x55])).rxq = (blk ++ blk) ++ [0x55] ∧ (blk ++ blk).length = 16
    ∧ (echoing ([0x00] ++ blk ++ blk)).rxq = ([0x00] ++ blk ++ blk.take 7) ++ [0x00]
    ∧ ([0x00] ++ blk ++ blk.take 7).length = 16 ∧ [0x00] ++ blk ++ blk.take 7 ≠ blk ++ blk
    ∧ (echoing (blk.take 5 ++ blk.take 5)).rxq.length < 16
    ∧ ({ echoing [] with sched := [.engine] } : State).sched = .engine :: [] := by decide +kernel

/-- V43. -/
theorem test_witness_FinalResponseIsExactlyOneByte :
    ((boot .btFinalWait image [] []).phase = .btFinalWait ∧ (boot .btFinalWait image [] []).rxq = [])
    ∧ (boot .btFinalWait image [0x50, 0x50] [.engine]).rxq ≠ []
    ∧ (boot .btFinalWait image [0x50] [.engine]).sched = .engine :: [] := by decide

/-- A state in the middle of a drain that meets the invariant, and its next step. -/
theorem test_witness_EveryStepKeepsTheStateConsistent :
    Inv (start [0xAA] [.host [0x25, 0x01]]) ∧ ∃ t, step (start [0xAA] [.host [0x25, 0x01]]) = .next t :=
  ⟨{ config := by unfold configOk; decide +kernel
     baud := by decide
     cursor := ⟨0, by decide, by decide⟩
     memory := by decide
     working := by unfold workingOk; decide
     session := ⟨fun _ => rfl, by decide, by decide⟩
     receive := by unfold receiveOk; decide
     busy := by unfold busyOk; decide
     frame := by unfold frameOk; decide
     timeout := by unfold timeoutOk; decide
     wire := ⟨[], by decide⟩ }, ⟨_, rfl⟩⟩

theorem test_witness_NoInstructionWritesImageOrConfiguration : ∃ t, exec .boot (start [] []) = .next t := ⟨_, rfl⟩

theorem test_witness_TraceAndWireOnlyGrow : ∃ t, exec (.write [0x12]) (start [] []) = .next t := ⟨_, rfl⟩

theorem test_witness_ExhaustedTurnsLeaveAHold :
    Instr.sbepReceive.port = .command ∧ (start [] []).phase = .idle
    ∧ ∃ t, exec .sbepReceive (start [] []) = .next t ∧ t.sched = [] :=
  ⟨by decide, by decide, ⟨_, rfl, by decide⟩⟩

theorem test_witness_HoldingOperationsTouchOnlyTheirState :
    (start [] []).phase = .idle ∧ (∃ t, exec (.read 1) (start [] []) = .next t)
    ∧ (∃ t, exec (.waitForQuiet 1) (start [] []) = .next t) ∧ (∃ t, exec (.sb9600Send 1 2 3 4) (start [] []) = .next t)
    ∧ (∃ t, exec .sbepEnter (start [] []) = .next t) ∧ (∃ t, exec .sbepLeave (start [] []) = .next t)
    ∧ (∃ t, exec (.sbepSend 1 []) (start [] []) = .next t) ∧ (∃ t, exec .sbepReceive (start [] []) = .next t)
    ∧ ∃ t, exec .boot (start [] []) = .next t :=
  ⟨by decide, ⟨_, rfl⟩, ⟨_, rfl⟩, ⟨_, rfl⟩, ⟨_, rfl⟩, ⟨_, rfl⟩, ⟨_, rfl⟩, ⟨_, rfl⟩, ⟨_, rfl⟩⟩

theorem test_witness_ResetAbandonsTheOperation : (mid .sbReadback [] [.reset]).sched = .reset :: [] := by decide

theorem test_witness_LoadedImageIsWhatMemReadReturns :
    (start [] [.load image]).sched = .load image :: [] ∧ image.length < 2 ^ 32 ∧ (start [] [.load image]).phase = .idle
    ∧ (mid .tRead [] [.load image]).phase ≠ .idle := by decide +kernel

/-- The three steps of the environment, a refused command, and one with no turn after it. -/
theorem test_witness_EnvironmentStepsWriteOnlyTheirLine :
    (start [] [.env (.busy true)]).sched = .env (.busy true) :: [] ∧ (start [] [.env (.rx 0x50)]).sched = .env (.rx 0x50) :: []
    ∧ ((start [] [.env .timeout]).sched = .env .timeout :: [] ∧ pendingRead (start [] [.env .timeout]) = none)
    ∧ ((mid .tRead [] [.host [0x22], .engine]).phase ≠ .idle ∧ (start [] [.host [0x22]]).sched = .host [0x22] :: [])
    ∧ Instr.ack.port = .wire .ack := by decide

/-- A state that meets the premise in the middle of a send, and a step that the host's turn is. -/
theorem test_witness_TraceEndsAsPhaseAndStatusSay :
    TraceOk (sendFrame (sent .sbXmit [0x99] [.host [0x22]]))
    ∧ ∃ t, step (sendFrame (sent .sbXmit [0x99] [.host [0x22]])) = .next t :=
  ⟨{ sbReadback := fun _ => ⟨rfl, ⟨[], rfl⟩, [0x99], ⟨[], rfl⟩⟩
     sbWaitRelease := by intro h; exact absurd h (by decide)
     epEnterAck := by intro h; exact absurd h (by decide)
     epLeaveWait := by intro h; exact absurd h (by decide)
     epXmit := by intro h; exact absurd h (by decide)
     epReadback := by intro h; exact absurd h (by decide)
     epAck := by intro h; exact absurd h (by decide)
     btBlockEcho := by intro h; exact absurd h (by decide)
     btFinalWait := by intro h; exact absurd h (by decide)
     idle := by intro h; exact absurd h (by decide)
     transmitMismatch := by intro h; exact absurd h (by decide)
     notAcknowledged := by intro h; exact absurd h (by decide)
     echoMismatch := by intro h; exact absurd h (by decide)
     bootstrapFailed := by intro h; exact absurd h (by decide) }, ⟨_, rfl⟩⟩

/-- R43: the session exists while preflight is still to come. -/
theorem test_session_from_the_start :
    (next (exec .boot (start [] [.host [0x22]]))).session
      = some { bootImage := none, baud := 2400, readySet := cfg.readySet } := by decide

/-- Log 19: an expiry that comes before the engine's turn cancels a read whose bytes are queued. -/
theorem test_deadline_before_a_full_read :
    (next (exec (.read 1) { start [0xAA] [.deadline] with cfg := { cfg with deadline := some 9 } })).status
      = .cancelled := by decide

end Sys2Proof.Tests
end

/-! PROOFS. `sbepHeader` as one of the four forms of R98, and the bytes of each as numbers (30_encoding.md R97, R98). -/

namespace Sys2Proof.Proofs

open Sys2Proof.Machine

section Forms

/-! The form each pair of ranges selects. A field of `0xF` or more, so exactly 15 too, leaves the nibble `0xF` (R97). -/

variable {opcode : Byte} {dataLen : Nat}

theorem sbepHeader_eq_formA (ho : opcode.toNat < 0xF) (hl : dataLen < 0xF) :
    sbepHeader opcode dataLen = [packNibbles (opcode.setWidth 4) (BitVec.ofNat 4 dataLen)] := by
  simp only [sbepHeader, if_pos ho, if_pos hl]

theorem sbepHeader_eq_formB (ho : 0xF ≤ opcode.toNat) (hl : dataLen < 0xF) :
    sbepHeader opcode dataLen = [packNibbles 0xF#4 (BitVec.ofNat 4 dataLen), opcode] := by
  simp only [sbepHeader, if_neg ho.not_gt, if_pos hl]

theorem sbepHeader_eq_formC (ho : opcode.toNat < 0xF) (hl : 0xF ≤ dataLen) :
    sbepHeader opcode dataLen = [packNibbles (opcode.setWidth 4) 0xF#4, 0x00#8, BitVec.ofNat 8 dataLen] := by
  simp only [sbepHeader, if_pos ho, if_neg hl.not_gt]

theorem sbepHeader_eq_formD (ho : 0xF ≤ opcode.toNat) (hl : 0xF ≤ dataLen) :
    sbepHeader opcode dataLen = [packNibbles 0xF#4 0xF#4, opcode, BitVec.ofNat 8 dataLen] := by
  simp only [sbepHeader, if_neg ho.not_gt, if_neg hl.not_gt]

/-! The fields lose nothing: a short opcode or length fits its nibble, a length of at most 255 fits its byte (R96). -/

theorem toNat_opcodeNibble (ho : opcode.toNat < 0xF) : (opcode.setWidth 4).toNat = opcode.toNat :=
  (BitVec.toNat_setWidth ..).trans (Nat.mod_eq_of_lt (by omega))

theorem toNat_lengthNibble (hl : dataLen < 0xF) : (BitVec.ofNat 4 dataLen).toNat = dataLen :=
  (BitVec.toNat_ofNat ..).trans (Nat.mod_eq_of_lt (by omega))

theorem toNat_lengthByte (hl : dataLen ≤ 255) : (BitVec.ofNat 8 dataLen).toNat = dataLen :=
  (BitVec.toNat_ofNat ..).trans (Nat.mod_eq_of_lt (by omega))

end Forms

/-- Settles O14: each pair of ranges selects its form, and the form's fields keep their values. -/
theorem sbepHeaderForms : Obligations.SbepHeaderForms := by
  intro opcode dataLen _ hmax
  refine ⟨fun ho hl => ?formA, fun ho hl => ?formB, fun ho hl => ?formC, fun ho hl => ?formD⟩
  case formA => simp [sbepHeader_eq_formA ho hl, packNibbles_toNat, toNat_opcodeNibble ho, toNat_lengthNibble hl]
  case formB => simp [sbepHeader_eq_formB ho hl, packNibbles_toNat, toNat_lengthNibble hl]
  case formC => simp [sbepHeader_eq_formC ho hl, packNibbles_toNat, toNat_opcodeNibble ho, toNat_lengthByte hmax]
  case formD => simp [sbepHeader_eq_formD ho hl, packNibbles_toNat, toNat_lengthByte hmax]

end Sys2Proof.Proofs

/-! PROOFS. The SBEP checksum as the complement of the sum modulo 256, the one byte that makes a frame valid, and the
known vectors of the CRC on the table of the machine after reset (40_checksum.md R133, R136, R137, R138). -/

namespace Sys2Proof.Proofs

open Sys2Proof.Machine

/-- Wrapping at every addition and reducing the unbounded sum once give the same byte (R137). -/
theorem toNat_byteSum (s : Bytes) : (byteSum s).toNat = (s.map BitVec.toNat).sum % 256 := by
  induction s with
  | nil => rfl
  | cons b s ih => simp [ih]

/-- A frame is valid when the byte its sum wraps to is `0xFF`, the byte whose complement is zero (R138). -/
theorem sbepChecksum_eq_zero_iff (s : Bytes) : sbepChecksum s = 0x00 ↔ byteSum s = 0xFF :=
  BitVec.xor_eq_zero_iff

/-- The complement of the sum is what the sum lacks to `0xFF` (R137). -/
theorem sbepChecksum_eq_sub (s : Bytes) : sbepChecksum s = 0xFF - byteSum s :=
  calc byteSum s ^^^ 0xFF
    _ = ~~~byteSum s := BitVec.xor_allOnes
    _ = 0xFF - byteSum s := (BitVec.allOnes_sub_eq_not _).symm

/-- The trailing byte that makes a valid frame of `s` is what the sum of `s` lacks to `0xFF`, and no other (R138). -/
theorem sbepChecksum_append_eq_zero_iff (s : Bytes) (c : Byte) :
    sbepChecksum (s ++ [c]) = 0x00 ↔ c = sbepChecksum s :=
  calc sbepChecksum (s ++ [c]) = 0x00
    _ ↔ byteSum (s ++ [c]) = 0xFF := sbepChecksum_eq_zero_iff _
    _ ↔ byteSum s + c = 0xFF := by simp
    _ ↔ c = 0xFF - byteSum s := by rw [BitVec.eq_sub_iff_add_eq, BitVec.add_comm]
    _ ↔ c = sbepChecksum s := by rw [sbepChecksum_eq_sub]

/-- Settles O12: the byte sum is the unbounded sum modulo 256, and round trip and uniqueness are the two directions of
which trailing byte is valid. -/
theorem sbepChecksumValidityAndRoundTrip : Obligations.SbepChecksumValidityAndRoundTrip := by
  refine ⟨fun s => ?validity, fun s => ?roundTrip, fun s c => ?uniqueness⟩
  case validity => rw [sbepChecksum_eq_zero_iff, ← BitVec.toNat_inj, toNat_byteSum]; rfl
  case roundTrip => exact (sbepChecksum_append_eq_zero_iff s _).mpr rfl
  case uniqueness => exact (sbepChecksum_append_eq_zero_iff s c).mp

/-- The machine comes out of reset with the table of R133 (R8). -/
theorem reset_table : State.reset.cfg.table = sb9600Table := rfl

/-- Settles O9: after reset the vectors are four look-ups each in the table of R133. -/
theorem crcKnownVectors : Obligations.CrcKnownVectors := by
  unfold Obligations.CrcKnownVectors
  rw [reset_table]
  exact ⟨by decide, by decide, by decide, by decide⟩

end Sys2Proof.Proofs

/-! PROOFS. The command port reads back what the encoder writes and refuses the rest (30_encoding.md R91 to R93), the
wire formats are read back from their bytes (R94 to R106), and table words decode to their rows. -/

namespace Sys2Proof.Proofs

open Sys2Proof.Machine Sys2Proof.Safety

@[simp] theorem decodeSeqOperand_seqBytes (code : Byte) (build : Bytes → Instr) (s rest : Bytes) :
    decodeSeqOperand code build (seqBytes s ++ rest) = .ok (build s) rest := by
  simp [decodeSeqOperand, takeSeq_seqBytes]

@[simp] theorem decodeNatOperand_natBytes (code : Byte) (build : Nat → Instr) (n : Nat) (rest : Bytes) :
    decodeNatOperand code build (natBytes n ++ rest) = .ok (build n) rest := by
  simp [decodeNatOperand, takeNat_natBytes]

/-- Settles O1: the code selects the operand's reader, and each reader takes back what the encoder wrote. -/
theorem commandDecodesFromItsEncoding : Obligations.CommandDecodesFromItsEncoding := by
  intro i rest hport
  cases i with
  | sb9600Crc s => exact decodeSeqOperand_seqBytes _ _ s rest
  | sbepChecksum s => exact decodeSeqOperand_seqBytes _ _ s rest
  | write s => exact decodeSeqOperand_seqBytes _ _ s rest
  | sbepSend opcode data => exact decodeSeqOperand_seqBytes _ _ data rest
  | read n => exact decodeNatOperand_natBytes _ _ n rest
  | waitForQuiet d => exact decodeNatOperand_natBytes _ _ d rest
  | setBaud r => exact decodeNatOperand_natBytes _ _ r rest
  | avail | flushIn | flushOut | setBusy | isBusy | sb9600Send | sb9600Check | sbepEnter | sbepLeave | sbepReceive
  | boot => rfl
  | sb9600Frame | sbepHeaderA | sbepHeaderB | sbepHeaderC | sbepHeaderD | ack | trigger | triggerResponse | block
  | ready | finalAck => cases hport

/-! What the four header forms say of their first byte (R95, R98). -/

@[simp] theorem opcodeExtended_packNibbles (hi lo : Nibble) : opcodeExtended (packNibbles hi lo) = (hi == 0xF#4) := by
  rw [opcodeExtended, highNibble_packNibbles]

@[simp] theorem lengthExtended_packNibbles (hi lo : Nibble) : lengthExtended (packNibbles hi lo) = (lo == 0xF#4) := by
  rw [lengthExtended, lowNibble_packNibbles]

/-- Settles O2: the first byte's two nibbles tell the header form, every other format has one form. -/
theorem wireFormatDecodesFromItsEncoding : Obligations.WireFormatDecodesFromItsEncoding := by
  intro i f hport hwf
  cases i <;> cases hport
  case sbepHeaderA o l =>
    obtain ⟨ho, hl⟩ : o ≠ 0xF#4 ∧ l ≠ 0xF#4 := by simpa [Instr.wellFormed] using hwf
    simp [decode, encode, decodeSbepHeader, ho, hl, highNibble_packNibbles, lowNibble_packNibbles]
  case sbepHeaderB l o =>
    have hl : l ≠ 0xF#4 := by simpa [Instr.wellFormed] using hwf
    simp [decode, encode, decodeSbepHeader, hl, lowNibble_packNibbles]
  case sbepHeaderC o p l =>
    have ho : o ≠ 0xF#4 := by simpa [Instr.wellFormed] using hwf
    simp [decode, encode, decodeSbepHeader, ho, highNibble_packNibbles]
  case block data =>
    have hlen : data.length = 8 := by simpa [Instr.wellFormed] using hwf
    simp [decode, encode, decodeEight, hlen, List.take_of_length_le]
  case ready pattern =>
    have hlen : pattern.length = 8 := by simpa [Instr.wellFormed] using hwf
    simp [decode, encode, decodeEight, hlen, List.take_of_length_le]
  all_goals rfl

/-- A byte whose two nibbles are ones is `0xFF` (R98, form D). -/
theorem eq_ones_of_extended {h : Byte} (ho : opcodeExtended h = true) (hl : lengthExtended h = true) : h = 0xFF#8 := by
  have hhi : highNibble h = 0xF#4 := by simpa [opcodeExtended] using ho
  have hlo : lowNibble h = 0xF#4 := by simpa [lengthExtended] using hl
  rw [← packNibbles_nibbles h, hhi, hlo]
  rfl

/-- A byte is rebuilt from its nibbles, one of which is known (R98, forms B and C). -/
theorem packNibbles_ones_lowNibble {h : Byte} (ho : opcodeExtended h = true) : packNibbles 0xF#4 (lowNibble h) = h := by
  have hhi : highNibble h = 0xF#4 := by simpa [opcodeExtended] using ho
  rw [← hhi, packNibbles_nibbles]

theorem packNibbles_highNibble_ones {h : Byte} (hl : lengthExtended h = true) :
    packNibbles (highNibble h) 0xF#4 = h := by
  have hlo : lowNibble h = 0xF#4 := by simpa [lengthExtended] using hl
  rw [← hlo, packNibbles_nibbles]

/-- Settles O3: the form read keeps both nibbles of byte 0 and the bytes after it, so writing it out gives them back. -/
theorem sbepHeaderIsMadeOfTheBytesRead : Obligations.SbepHeaderIsMadeOfTheBytesRead := by
  intro bs rest i hdec
  obtain _ | ⟨h, bs⟩ := bs
  · cases hdec
  simp only [decode, decodeSbepHeader] at hdec
  by_cases hl : lengthExtended h = true <;> by_cases ho : opcodeExtended h = true <;>
    simp only [hl, ho, if_true, if_false, Bool.false_eq_true] at hdec
  case pos =>
    rcases bs with _ | ⟨b1, _ | ⟨b2, bs⟩⟩ <;> cases hdec
    obtain rfl := eq_ones_of_extended ho hl
    exact ⟨rfl, rfl, by simp [encode, headerLen, hl]⟩
  case neg =>
    rcases bs with _ | ⟨b1, _ | ⟨b2, bs⟩⟩ <;> cases hdec
    have hhi : highNibble h ≠ 0xF#4 := by simpa [opcodeExtended] using ho
    simp [Instr.wellFormed, encode, headerLen, hl, hhi, packNibbles_highNibble_ones hl]
  case pos =>
    rcases bs with _ | ⟨b1, bs⟩ <;> cases hdec
    have hlo : lowNibble h ≠ 0xF#4 := by simpa [lengthExtended] using hl
    simp [Instr.wellFormed, encode, headerLen, hl, ho, hlo, packNibbles_ones_lowNibble ho]
  case neg =>
    cases hdec
    have hhi : highNibble h ≠ 0xF#4 := by simpa [opcodeExtended] using ho
    have hlo : lowNibble h ≠ 0xF#4 := by simpa [lengthExtended] using hl
    simp [Instr.wellFormed, encode, headerLen, hl, ho, hhi, hlo, packNibbles_nibbles]

/-- Settles O4: fifteen words, each decoded. -/
theorem tableWordsDecodeToTheirRows : Obligations.TableWordsDecodeToTheirRows := by
  refine ⟨?_, ?_, ?_, ?_, ?_, ?_, ?_, ?_, ?_, ?_, ?_, ?_, ?_, ?_, ?_⟩ <;> decide

end Sys2Proof.Proofs

/-! PROOFS. Every row of the opcode table as the two ports run it: a command behind the check of R93, a wire format as
the bytes it is; then what follows for every instruction and for one step (30_encoding.md R91, R93). -/

namespace Sys2Proof.Proofs

open Sys2Proof.Machine Sys2Proof.Safety

/-- The state in which a command that may hold starts its run; a row that cannot hold has none. -/
def opened (i : Instr) (s : State) : State :=
  match i with
  | .read n => { s with phase := .tRead, w := { s.w with readCount := n } }
  | .waitForQuiet d => { s with phase := .tQuiet, savedTimeout := s.timeout, timeout := d }
  | .sb9600Send a sub v o => { buildFrame a sub v o s with phase := .sbWaitFree }
  | .sbepEnter => { driveBusy true s with phase := .epEnterAck }
  | .sbepLeave => { driveBusy false s with phase := .epLeaveWait }
  | .sbepSend opcode data => { setMessage opcode data s with phase := .epXmit }
  | .sbepReceive => { setRxbuf [] s with phase := .epRxHdr }
  | .boot => { openSession s with phase := .btPreflight }
  | _ => s

section Opened

/-! The first state of each command that may hold. -/

variable (s : State)

@[simp] theorem opened_read (n : Nat) :
    opened (.read n) s = { s with phase := .tRead, w := { s.w with readCount := n } } := rfl

@[simp] theorem opened_waitForQuiet (d : Nat) :
    opened (.waitForQuiet d) s = { s with phase := .tQuiet, savedTimeout := s.timeout, timeout := d } := rfl

@[simp] theorem opened_sb9600Send (a sub v o : Byte) :
    opened (.sb9600Send a sub v o) s = { buildFrame a sub v o s with phase := .sbWaitFree } := rfl

@[simp] theorem opened_sbepEnter :
    opened .sbepEnter s = { s with phase := .epEnterAck, busyOut := true, trace := s.trace ++ [.busy true] } := rfl

@[simp] theorem opened_sbepLeave :
    opened .sbepLeave s = { s with phase := .epLeaveWait, busyOut := false, trace := s.trace ++ [.busy false] } := rfl

@[simp] theorem opened_sbepSend (opcode : Byte) (data : Bytes) :
    opened (.sbepSend opcode data) s = { setMessage opcode data s with phase := .epXmit } := rfl

@[simp] theorem opened_sbepReceive : opened .sbepReceive s = { setRxbuf [] s with phase := .epRxHdr } := rfl

@[simp] theorem opened_boot : opened .boot s = { s with
    phase := .btPreflight
    session := some { bootImage := none, baud := s.cfg.bootBaud, readySet := s.cfg.readySet } } := rfl

end Opened

/-- What a command that cannot hold does, its end included; any other row has no such meaning. -/
def immediate (i : Instr) (s : State) : State :=
  match i with
  | .sb9600Crc bs => endOp .ok (.byte (sb9600Crc s.cfg.table bs)) [.acc] s
  | .sbepChecksum bs => endOp .ok (.byte (sbepChecksum bs)) [.acc] s
  | .write bs => endOp .ok .none [] (writeLine bs s)
  | .avail => endOp .ok (.count s.rxq.length) [] s
  | .flushIn => endOp .ok .none [] (flushInput s)
  | .flushOut => endOp .ok .none [] s
  | .setBusy v => endOp .ok .none [] (driveBusy (v == 0x01#8) s)
  | .isBusy => endOp .ok (.bit s.busyIn) [] s
  | .setBaud r => endOp .ok .none [] (driveBaud r s)
  | .sb9600Check f0 f1 f2 f3 f4 =>
    endOp .ok (.checked (sb9600Valid s.cfg.table f0 f1 f2 f3 f4) f0 f1 f2 f3) [.frame, .acc] s
  | _ => s

/-- The effect of an issued command. -/
def issued (i : Instr) (s : State) : State := if mayHold i then operate (opened i s) else immediate i s

/-- A command's row is the command port with the row's operand check (R91, R93). -/
theorem exec_command {i : Instr} (hport : i.port = .command) (s : State) :
    exec i s = command i.wellFormed (issued i) s := by
  cases i with
  | sb9600Frame | sbepHeaderA | sbepHeaderB | sbepHeaderC | sbepHeaderD | ack | trigger | triggerResponse | block
  | ready | finalAck => cases hport
  | _ => rfl

/-- A wire format's row is the arrival of its bytes (R90). -/
theorem exec_wire {i : Instr} {f : Format} (hport : i.port = .wire f) (s : State) :
    exec i s = .next (deliver (encode i) s) := by
  cases i with
  | sb9600Frame | sbepHeaderA | sbepHeaderB | sbepHeaderC | sbepHeaderD | ack | trigger | triggerResponse | block
  | ready | finalAck => rfl
  | _ => cases hport

/-- A well-formed command at the idle engine that cannot hold. -/
theorem exec_immediate {i : Instr} {s : State} (hport : i.port = .command) (hwf : i.wellFormed = true)
    (hidle : s.phase = .idle) (hm : mayHold i = false) : exec i s = .next (immediate i s) := by
  rw [exec_command hport, command_idle hwf hidle, issued, hm]
  rfl

/-- A well-formed command at the idle engine that may hold runs along the turns to come. -/
theorem exec_run {i : Instr} {s : State} (hwf : i.wellFormed = true) (hidle : s.phase = .idle)
    (hm : mayHold i = true) : exec i s = .next (run s.sched (opened i s)) := by
  have hport : i.port = .command := by cases i <;> first | rfl | cases hm
  have hsched : (opened i s).sched = s.sched := by cases i <;> rfl
  rw [exec_command hport, command_idle hwf hidle, issued, hm, if_pos rfl, operate, hsched]

/-- Everything an instruction can do: nothing, an operation without a hold, a run, or an arrival. -/
theorem exec_cases {i : Instr} {s t : State} (h : exec i s = .next t) :
    t = s
    ∨ (s.phase = .idle ∧ i.wellFormed = true ∧ i.port = .command ∧ mayHold i = false ∧ t = immediate i s)
    ∨ (s.phase = .idle ∧ i.wellFormed = true ∧ mayHold i = true ∧ t = run s.sched (opened i s))
    ∨ (∃ f, i.port = .wire f ∧ t = deliver (encode i) s) := by
  cases hport : i.port with
  | wire f =>
    rw [exec_wire hport] at h
    exact .inr (.inr (.inr ⟨f, rfl, (Host.Outcome.next.inj h).symm⟩))
  | command =>
    by_cases hok : i.wellFormed = true ∧ s.phase = .idle
    · obtain ⟨hwf, hidle⟩ := hok
      cases hm : mayHold i with
      | false =>
        rw [exec_immediate hport hwf hidle hm] at h
        exact .inr (.inl ⟨hidle, hwf, rfl, rfl, (Host.Outcome.next.inj h).symm⟩)
      | true =>
        rw [exec_run hwf hidle hm] at h
        exact .inr (.inr (.inl ⟨hidle, hwf, rfl, (Host.Outcome.next.inj h).symm⟩))
    · rw [exec_command hport, command_eq, if_neg hok] at h
      exact .inl (Host.Outcome.next.inj h).symm

/-- Every instruction answers a next state (R282). -/
theorem exec_total (i : Instr) (s : State) : ∃ t, exec i s = .next t := by
  cases hport : i.port with
  | command => exact ⟨_, exec_command hport s⟩
  | wire f => exact ⟨_, exec_wire hport s⟩

/-- Settles O6: the command port looks at the phase first. -/
theorem commandsWhileBusyChangeNothing : Obligations.CommandsWhileBusyChangeNothing := by
  intro i s hport hbusy
  rw [exec_command hport, command_busy hbusy]

/-- A code outside R92 is no instruction, whatever follows it (R93). -/
theorem decodeCommand_unknown {code : Byte} (h : code.toNat ∉ commandCodes) (bs : Bytes) :
    decodeCommand (code :: bs) = .reject (.unknownCode code) := by
  simp only [commandCodes, List.mem_cons, List.not_mem_nil, or_false, not_or] at h
  simp only [decodeCommand]
  split <;> simp_all

/-- Settles O5: an unknown code is rejected by the decoder, an ill-formed operand by the command port. -/
theorem refusedCommandsChangeNothing : Obligations.RefusedCommandsChangeNothing := by
  refine ⟨fun s code bs ts hcode hs => ?unknown, fun i s hport hwf => ?illFormed, fun v => ?bit, fun r => ?rate,
    fun o d => ?data⟩
  case unknown => simp [step, fetch, hs, decode, decodeCommand_unknown hcode]
  case illFormed => rw [exec_command hport, command_illFormed hwf]
  case bit =>
    simp only [Instr.wellFormed, bitLegal, Bool.or_eq_false_iff, beq_eq_false_iff_ne, ne_eq, ← BitVec.toNat_inj]
    change ¬v.toNat = 0 ∧ ¬v.toNat = 1 ↔ _
    omega
  case rate => simp [Instr.wellFormed, rateLegal, legalRates]
  case data => rw [← Bool.not_eq_true, Instr.wellFormed, dataLegal, decide_eq_true_eq, not_le, maxData]

/-! One step, by the turn at the head of the turns to come. -/

section Step

variable {s : State} {ts : List Turn}

theorem step_none (h : s.sched = []) : step s = .next (engineTurn s) := by simp [step, fetch, h]

theorem step_engine (h : s.sched = .engine :: ts) : step s = .next (engineTurn { s with sched := ts }) := by
  simp [step, fetch, h]

theorem step_env {e : EnvStep} (h : s.sched = .env e :: ts) : step s = .next (envTurn e { s with sched := ts }) := by
  simp [step, fetch, h]

theorem step_deadline (h : s.sched = .deadline :: ts) : step s = .next (deadlineTurn { s with sched := ts }) := by
  simp [step, fetch, h]

theorem step_reset (h : s.sched = .reset :: ts) : step s = .next (applyReset { s with sched := ts }) := by
  simp [step, fetch, h]

theorem step_load {image : Bytes} (h : s.sched = .load image :: ts) :
    step s = if s.phase = .idle then .next (loadImage image { s with sched := ts })
      else .fault .imageChangedDuringOperation := by
  by_cases hidle : s.phase = .idle <;> simp [step, fetch, h, hidle]

theorem step_unload (h : s.sched = .unload :: ts) :
    step s = if s.phase = .idle then .next (unloadImage { s with sched := ts })
      else .fault .imageChangedDuringOperation := by
  by_cases hidle : s.phase = .idle <;> simp [step, fetch, h, hidle]

theorem step_host_ok {bs rest : Bytes} {i : Instr} (h : s.sched = .host bs :: ts)
    (hd : decode .command bs = .ok i rest) : step s = exec i { s with sched := ts } := by simp [step, fetch, h, hd]

theorem step_line_some {bs : Bytes} {i : Instr} (h : s.sched = .line bs :: ts)
    (hd : decodeLine (expectedFormat s.phase) bs = some i) : step s = exec i { s with sched := ts } := by
  simp [step, fetch, h, hd]

/-- The host's turn: the command it presents, or nothing (R93). -/
theorem step_host {bs : Bytes} (h : s.sched = .host bs :: ts) :
    (∃ i, step s = exec i { s with sched := ts }) ∨ step s = .next { s with sched := ts } := by
  cases hd : decode .command bs with
  | ok i rest => exact .inl ⟨i, step_host_ok h hd⟩
  | reject r => exact .inr (by simp [step, fetch, h, hd])

/-- The line's turn: the wire format the burst is, or its bytes. -/
theorem step_line {bs : Bytes} (h : s.sched = .line bs :: ts) :
    (∃ i, step s = exec i { s with sched := ts }) ∨ step s = .next (deliver bs { s with sched := ts }) := by
  cases hd : decodeLine (expectedFormat s.phase) bs with
  | some i => exact .inl ⟨i, step_line_some h hd⟩
  | none => exact .inr (by simp [step, fetch, h, hd])

end Step

/-- Settles O8: an instruction never stops the machine, so a step stops only at the turns `load` and `unload`. -/
theorem onlyTheHostsFaultStopsAStep : Obligations.OnlyTheHostsFaultStopsAStep := by
  refine ⟨exec_total, fun s => ?_⟩
  cases hs : s.sched with
  | nil => exact .inl ⟨_, step_none hs⟩
  | cons t ts =>
    cases t with
    | engine => exact .inl ⟨_, step_engine hs⟩
    | env e => exact .inl ⟨_, step_env hs⟩
    | deadline => exact .inl ⟨_, step_deadline hs⟩
    | reset => exact .inl ⟨_, step_reset hs⟩
    | host bs =>
      obtain ⟨i, he⟩ | he := step_host hs
      · exact .inl (he ▸ exec_total i _)
      · exact .inl ⟨_, he⟩
    | line bs =>
      obtain ⟨i, he⟩ | he := step_line hs
      · exact .inl (he ▸ exec_total i _)
      · exact .inl ⟨_, he⟩
    | load image =>
      by_cases hidle : s.phase = .idle
      · exact .inl ⟨_, by rw [step_load hs, if_pos hidle]⟩
      · exact .inr ⟨by rw [step_load hs, if_neg hidle], hidle, ts, .inr ⟨image, rfl⟩⟩
    | unload =>
      by_cases hidle : s.phase = .idle
      · exact .inl ⟨_, by rw [step_unload hs, if_pos hidle]⟩
      · exact .inr ⟨by rw [step_unload hs, if_neg hidle], hidle, ts, .inl rfl⟩

/-- Settles O7: `step` takes the turn and runs what `decode` reads; a table word's turn is one of the two. -/
theorem stepRunsTheDecodedInstruction : Obligations.StepRunsTheDecodedInstruction := by
  refine ⟨fun s bs rest ts i hs hd => step_host_ok hs hd, fun s bs ts i hs hd => step_line_some hs hd,
    fun s nbits w i hidle hd => ?word⟩
  unfold decodeTableWord at hd
  by_cases hcmd : tableWordIsCommand nbits w = true
  · have hturn : (s.withFetchWord nbits w).sched = .host (tableBytes nbits w ++ zeroOperands) :: s.sched := by
      simp [State.withFetchWord, wordTurn, hcmd]
    rw [if_pos hcmd] at hd
    split at hd
    · next j rest hj =>
      cases hd
      exact step_host_ok hturn hj
    · cases hd
  · have hturn : (s.withFetchWord nbits w).sched = .line (tableBytes nbits w) :: s.sched := by
      simp [State.withFetchWord, wordTurn, hcmd]
    rw [if_neg hcmd] at hd
    exact step_line_some hturn (by simpa [State.withFetchWord, hidle, expectedFormat] using hd)

end Sys2Proof.Proofs

/-! PROOFS. The CRC as the bit-serial circuit, which is linear and reversible (40_checksum.md R133 to R135). -/

namespace Sys2Proof.Proofs

open Sys2Proof.Machine

/-- The printed table is the generated one (R133, R134): 256 entries compared. -/
theorem sb9600Table_eq_generated : sb9600Table = generatedTable := by decide +kernel

/-- A look-up in the table is the bit-serial circuit (R134). -/
theorem crcStep_sb9600Table (acc b : Byte) : crcStep sb9600Table acc b = crcShift8 (acc ^^^ b) := by
  have hlt : (acc ^^^ b).toNat < 256 := (acc ^^^ b).isLt
  rw [crcStep, sb9600Table_eq_generated, generatedTable, List.getD_eq_getElem?_getD, List.getElem?_map,
    List.getElem?_range hlt]
  simp

/-- Settles O10. -/
theorem crcTableIsTheGeneratedOne : Obligations.CrcTableIsTheGeneratedOne :=
  ⟨sb9600Table_eq_generated, crcStep_sb9600Table⟩

/-- One pass of the circuit is linear over exclusive or. -/
theorem crcShift_xor (a b : Byte) : crcShift (a ^^^ b) = crcShift a ^^^ crcShift b := by
  unfold crcShift
  rw [BitVec.getLsbD_xor, BitVec.ushiftRight_xor_distrib]
  cases a.getLsbD 0 <;> cases b.getLsbD 0 <;> simp <;> ac_nf
  simp

theorem crcShift8_xor (a b : Byte) : crcShift8 (a ^^^ b) = crcShift8 a ^^^ crcShift8 b := by
  simp only [crcShift8, crcShift_xor]

/-- The circuit maps only zero to zero: 256 values tried. -/
theorem crcShift8_eq_zero_iff (a : Byte) : crcShift8 a = 0x00#8 ↔ a = 0x00#8 := by
  revert a; decide +kernel

theorem crcShift8_injective : Function.Injective crcShift8 := by
  intro a b h
  rw [← BitVec.xor_eq_zero_iff, ← crcShift8_eq_zero_iff, crcShift8_xor, h, BitVec.xor_self]

theorem crcShift8_surjective : Function.Surjective crcShift8 :=
  Finite.surjective_of_injective crcShift8_injective

/-- The byte that comes last meets the CRC so far in the circuit (R131). -/
theorem sb9600Crc_concat (p : Bytes) (x : Byte) :
    sb9600Crc sb9600Table (p ++ [x]) = crcShift8 (sb9600Crc sb9600Table p ^^^ x) := by
  rw [sb9600Crc_append, List.foldl_cons, List.foldl_nil, crcStep_sb9600Table]

/-- Different values so far stay different, whatever follows. -/
theorem foldl_crcStep_injective (q : Bytes) : Function.Injective fun acc => q.foldl (crcStep sb9600Table) acc := by
  induction q with
  | nil => exact fun a b h => h
  | cons x q ih =>
    intro a b h
    have hstep : crcShift8 (a ^^^ x) = crcShift8 (b ^^^ x) := by simpa [crcStep_sb9600Table] using ih h
    exact (BitVec.xor_left_inj x).mp (crcShift8_injective hstep)

/-- Two runs of the CRC add up bytewise. -/
theorem foldl_crcStep_zipWith (s t : Bytes) (h : s.length = t.length) (a b : Byte) :
    (List.zipWith (fun x y => x ^^^ y) s t).foldl (crcStep sb9600Table) (a ^^^ b)
      = s.foldl (crcStep sb9600Table) a ^^^ t.foldl (crcStep sb9600Table) b := by
  induction s generalizing t a b with
  | nil =>
    obtain rfl : t = [] := List.length_eq_zero_iff.mp h.symm
    rfl
  | cons x s ih =>
    obtain _ | ⟨y, t⟩ := t
    · cases h
    have hstep : crcStep sb9600Table (a ^^^ b) (x ^^^ y) = crcStep sb9600Table a x ^^^ crcStep sb9600Table b y := by
      rw [crcStep_sb9600Table, crcStep_sb9600Table, crcStep_sb9600Table, ← crcShift8_xor]
      ac_rfl
    rw [List.zipWith_cons_cons, List.foldl_cons, hstep]
    exact ih t (Nat.succ.inj h) _ _

/-- Settles O11: items 1 and 3 are the circuit at zero, item 2 its reversibility, item 4 its linearity. -/
theorem crcLawsOfTheTable : Obligations.CrcLawsOfTheTable := by
  have hzero : crcShift8 0x00#8 = 0x00#8 := (crcShift8_eq_zero_iff _).mpr rfl
  refine ⟨⟨rfl, fun s => ?leading⟩, ⟨?length, by decide +kernel, fun p c => ?solvable, fun p q x y hne => ?detects⟩,
    ⟨fun s => ?residue, fun f0 f1 f2 f3 f4 => ?valid⟩, fun s t hlen => ?linear⟩
  case length => simp [sb9600Table_eq_generated, generatedTable]
  case leading => simp [sb9600Crc, crcStep_sb9600Table, hzero]
  case solvable =>
    obtain ⟨z, hz⟩ := crcShift8_surjective c
    refine ⟨sb9600Crc sb9600Table p ^^^ z, ?_, fun y hy => ?_⟩
    · rw [sb9600Crc_concat, ← BitVec.xor_assoc, BitVec.xor_self, BitVec.zero_xor, hz]
    · rw [sb9600Crc_concat, ← hz] at hy
      rw [← crcShift8_injective hy, ← BitVec.xor_assoc, BitVec.xor_self, BitVec.zero_xor]
  case detects =>
    intro h
    rw [sb9600Crc_append, sb9600Crc_append, List.foldl_cons, List.foldl_cons, crcStep_sb9600Table,
      crcStep_sb9600Table] at h
    exact hne ((BitVec.xor_right_inj _).mp (crcShift8_injective (foldl_crcStep_injective q h)))
  case residue => exact (sb9600Crc_concat s _).trans ((congrArg crcShift8 BitVec.xor_self).trans hzero)
  case valid =>
    rw [show [f0, f1, f2, f3, f4] = [f0, f1, f2, f3] ++ [f4] from rfl, sb9600Crc_concat]
    exact beq_iff_eq.trans (BitVec.xor_eq_zero_iff.symm.trans (crcShift8_eq_zero_iff _).symm)
  case linear => exact foldl_crcStep_zipWith s t hlen 0x00#8 0x00#8

/-- Settles O13: the fifth byte of a built frame is the CRC the check computes. -/
theorem frameCheckRoundTrip : Obligations.FrameCheckRoundTrip := by
  intro s a b v o f0 f1 f2 f3 f4 hidle hframe
  obtain ⟨rfl, rfl, rfl, rfl, rfl⟩ : a = f0 ∧ b = f1 ∧ v = f2 ∧ o = f3 ∧ sb9600Crc s.cfg.table [a, b, v, o] = f4 := by
    simpa [sb9600Frame] using hframe
  exact ⟨_, exec_immediate rfl rfl hidle rfl, by simp [immediate, sb9600Valid]⟩

end Sys2Proof.Proofs

/-! PROOFS. The SBEP parser on whole and on cut frames (30_encoding.md R95 to R101, 43_sbep.md R203, R204), and the
blocks of an image (44_bootstrap.md R250, R251). -/

namespace Sys2Proof.Proofs

open Sys2Proof.Machine Sys2Proof.Safety

section Parser

/-! The parser, by how far the bytes reach. The first header byte says how long the header is. -/

/-- What the parser makes of the bytes after a whole header (R203). -/
def parseBody (header q : Bytes) : Parsed :=
  if q.length < headerDataLen header then .short
  else
    match frameVerdict header (q.take (headerDataLen header)) with
    | some (opcode, data) => .frame opcode data (q.drop (headerDataLen header))
    | none => .bad (q.drop (headerDataLen header))

theorem sbepParse_nil : sbepParse [] = .short := rfl

/-- Bytes that end inside the header (R203). -/
theorem sbepParse_headerCut {h : Byte} {bs : Bytes} (hlen : (h :: bs).length < headerLen h) :
    sbepParse (h :: bs) = .short := by
  have hcut : ((h :: bs).take (headerLen h)).length < headerLen h := by
    rw [List.length_take]
    omega
  simp only [sbepParse, hcut, if_true]

theorem headerLen_pos (h : Byte) : 1 ≤ headerLen h := by
  unfold headerLen
  split
  · decide
  · split <;> decide

variable {header payload rest : Bytes}

/-- A whole header splits the bytes where its first byte says (R99). -/
theorem sbepParse_header (hlen : header.length = headerLen (header.getD 0 0)) (q : Bytes) :
    sbepParse (header ++ q) = parseBody header q := by
  obtain _ | ⟨h, hs⟩ := header
  · exact absurd hlen (Nat.ne_of_lt (headerLen_pos _))
  have hlen : (h :: hs).length = headerLen h := hlen
  have htake : ((h :: hs) ++ q).take (headerLen h) = h :: hs := List.take_left' hlen
  have hdrop : ((h :: hs) ++ q).drop (headerLen h) = q := List.drop_left' hlen
  rw [List.cons_append] at htake hdrop ⊢
  simp only [sbepParse, htake, hdrop, hlen, lt_irrefl, if_false]
  rfl

/-- Bytes that end inside the payload (R203). -/
theorem sbepParse_payloadCut (hlen : header.length = headerLen (header.getD 0 0))
    (hq : payload.length < headerDataLen header) : sbepParse (header ++ payload) = .short := by
  rw [sbepParse_header hlen, parseBody, if_pos hq]

/-- A whole frame that is accepted (R203). -/
theorem sbepParse_frame (hlen : header.length = headerLen (header.getD 0 0))
    (hp : payload.length = headerDataLen header) {opcode : Byte} {data : Bytes}
    (hv : frameVerdict header payload = some (opcode, data)) :
    sbepParse (header ++ (payload ++ rest)) = .frame opcode data rest := by
  rw [sbepParse_header hlen, parseBody, if_neg (by simp [hp]), List.take_left' hp, List.drop_left' hp, hv]

/-- A whole frame that is not (R203). -/
theorem sbepParse_bad (hlen : header.length = headerLen (header.getD 0 0))
    (hp : payload.length = headerDataLen header) (hv : frameVerdict header payload = none) :
    sbepParse (header ++ (payload ++ rest)) = .bad rest := by
  rw [sbepParse_header hlen, parseBody, if_neg (by simp [hp]), List.take_left' hp, List.drop_left' hp, hv]

end Parser

section BuiltFrame

/-! The header that `sbep_header` builds is read back whole (R97 to R99). -/

variable {opcode : Byte} {dataLen : Nat}

theorem beq_ones_of_lt {n : Nibble} (h : n.toNat < 0xF) : (n == 0xF#4) = false := by
  rw [beq_eq_false_iff_ne]
  rintro rfl
  exact absurd h (by decide)

/-- What a decoder reads from a built header, whichever form it has (R97, R99). -/
theorem sbepHeader_readBack (hmax : dataLen ≤ 255) :
    (sbepHeader opcode dataLen).length = headerLen ((sbepHeader opcode dataLen).getD 0 0)
    ∧ headerDataLen (sbepHeader opcode dataLen) = dataLen ∧ headerOpcode (sbepHeader opcode dataLen) = opcode := by
  have hopcode (ho : opcode.toNat < 0xF) : (opcode.setWidth 4).setWidth 8 = opcode :=
    BitVec.eq_of_toNat_eq (by simp only [BitVec.toNat_setWidth]; omega)
  rcases lt_or_ge opcode.toNat 0xF with ho | ho <;> rcases lt_or_ge dataLen 0xF with hl | hl
  · have hoE := beq_ones_of_lt (n := opcode.setWidth 4) (by rwa [toNat_opcodeNibble ho])
    have hlE := beq_ones_of_lt (n := BitVec.ofNat 4 dataLen) (by rwa [toNat_lengthNibble hl])
    simp [sbepHeader_eq_formA ho hl, headerLen, headerDataLen, headerOpcode, hoE, hlE, highNibble_packNibbles,
      lowNibble_packNibbles, -BitVec.toNat_ofNat, toNat_lengthNibble hl, hopcode ho]
  · have hoE := beq_ones_of_lt (n := opcode.setWidth 4) (by rwa [toNat_opcodeNibble ho])
    simp [sbepHeader_eq_formC ho hl, headerLen, headerDataLen, headerOpcode, hoE, highNibble_packNibbles,
      -BitVec.toNat_ofNat, toNat_lengthByte hmax, hopcode ho]
  · have hlE := beq_ones_of_lt (n := BitVec.ofNat 4 dataLen) (by rwa [toNat_lengthNibble hl])
    simp [sbepHeader_eq_formB ho hl, headerLen, headerDataLen, headerOpcode, hlE, lowNibble_packNibbles,
      -BitVec.toNat_ofNat, toNat_lengthNibble hl]
  · simp [sbepHeader_eq_formD ho hl, headerLen, headerDataLen, headerOpcode, -BitVec.toNat_ofNat,
      toNat_lengthByte hmax]

/-- The payload of a built frame is its data and the byte that makes the checksum come out (R100, R138). -/
theorem frameVerdict_built {data : Bytes} (hmax : data.length ≤ 254) :
    frameVerdict (sbepHeader opcode (data.length + 1))
      (data ++ [sbepChecksum (sbepHeader opcode (data.length + 1) ++ data)]) = some (opcode, data) := by
  obtain ⟨-, hdata, hop⟩ := sbepHeader_readBack (opcode := opcode) (dataLen := data.length + 1) (by omega)
  have hsum : ¬sbepChecksum (sbepHeader opcode (data.length + 1) ++ data
      ++ [sbepChecksum (sbepHeader opcode (data.length + 1) ++ data)]) ≠ 0x00#8 :=
    not_not.mpr ((sbepChecksum_append_eq_zero_iff _ _).mpr rfl)
  rw [frameVerdict, hdata, hop, if_neg (by omega), ← List.append_assoc, if_neg hsum]
  simp

end BuiltFrame

/-- Settles O15: the header is read back, then the payload passes the sum test; a short opcode in the extended form is
accepted and never built. -/
theorem sbepFrameParsesBack : Obligations.SbepFrameParsesBack := by
  refine ⟨fun opcode data rest hmax => ?parse, fun opcode data ho hl => ?shortForm, fun opcode data h => ?longForm,
    [0xF2, 0x05, 0x01, 0x07], 0x05, [0x01], by decide, by decide⟩
  case parse =>
    obtain ⟨hlen, hdata, -⟩ := sbepHeader_readBack (opcode := opcode) (dataLen := data.length + 1) (by omega)
    have hparse := sbepParse_frame (rest := rest) hlen (by simp [hdata]) (frameVerdict_built hmax)
    simpa [sbepFrame] using hparse
  case shortForm => rw [sbepHeader_length, if_pos (by omega), if_pos ho]
  case longForm =>
    rw [sbepHeader_length]
    split
    · rw [if_neg (by omega)]
    · decide

/-- Settles O16: five received forms, each parsed. -/
theorem nonCanonicalSbepForms : Obligations.NonCanonicalSbepForms := by
  refine ⟨?_, ?_, ?_, ?_, ?_⟩ <;> decide

/-! The blocks of an image. -/

theorem blocksFrom_length (image : Bytes) (k c : Nat) : (blocksFrom image k c).length = k := by
  induction k generalizing c with
  | zero => rfl
  | succ k ih => simp [blocksFrom, ih]

theorem length_of_mem_blocksFrom {image b : Bytes} {k c : Nat} (h : b ∈ blocksFrom image k c) : b.length = 8 := by
  induction k generalizing c with
  | zero => cases h
  | succ k ih =>
    obtain rfl | h := List.mem_cons.mp h
    · exact blockAt_length image c
    · exact ih h

/-- A block inside the image has no padding (R251). -/
theorem blockAt_inside {image : Bytes} {c : Nat} (h : c + 8 ≤ image.length) :
    blockAt image c = (image.drop c).take 8 := by
  have hlen : ((image.drop c).take 8).length = 8 := by simp; omega
  simp [blockAt, hlen, zeros]

/-- The last block is what is left and the zeros up to eight (R251). -/
theorem blockAt_end {image : Bytes} {c : Nat} (hc : c ≤ image.length) (h : image.length ≤ c + 8) :
    blockAt image c = image.drop c ++ zeros (c + 8 - image.length) := by
  have hlen : (image.drop c).length ≤ 8 := by simp; omega
  simp only [blockAt, List.take_of_length_le hlen, List.length_drop]
  congr 2
  omega

/-- As many blocks as reach the end of the image are the rest of the image and the padding (R250, R251). -/
theorem blocksFrom_flatten {image : Bytes} {k c : Nat} (hc : c ≤ image.length) (hlow : image.length ≤ c + 8 * k)
    (hhigh : c + 8 * k < image.length + 8) :
    (blocksFrom image k c).flatten = image.drop c ++ zeros (c + 8 * k - image.length) := by
  induction k generalizing c with
  | zero =>
    obtain rfl : c = image.length := by omega
    simp [blocksFrom, zeros]
  | succ k ih =>
    rw [blocksFrom, List.flatten_cons]
    rcases Nat.eq_zero_or_pos k with rfl | hk
    · simp [blockAt_end hc hlow, blocksFrom]
    · rw [blockAt_inside (by omega), ih (by omega) (by omega) (by omega), ← List.append_assoc, ← List.drop_drop,
        List.take_append_drop]
      congr 2
      omega

/-- Settles O17: the number of blocks is the least that reaches the end of the image. -/
theorem lastBlockIsPaddedToEight : Obligations.LastBlockIsPaddedToEight := by
  intro image hlen
  have hpad : 0x80 + 8 * blockCount image.length - image.length
      = if (image.length - 0x80) % 8 = 0 then 0 else 8 - (image.length - 0x80) % 8 := by
    unfold blockCount
    split <;> omega
  refine ⟨fun b hb => length_of_mem_blocksFrom hb, blocksFrom_length _ _ _, ?_⟩
  rw [← hpad]
  exact blocksFrom_flatten (by omega) (by unfold blockCount; omega) (by unfold blockCount; omega)

end Sys2Proof.Proofs

/-! PROOFS. What is kept by every turn, every instruction and every step: the inductions, once, and the frames they give
at once (20_memory.md R63, R70 to R73; 10_state.md R38). -/

namespace Sys2Proof.Proofs

open Sys2Proof.Machine Sys2Proof.Safety

/-- What a property of states needs so that no turn of the engine or of the environment loses it. -/
structure KeptByTurns (P : State → Prop) : Prop where
  sched : ∀ s x, P s → P { s with sched := x }
  rx : ∀ s b, P s → P { s with rxq := s.rxq ++ [b] }
  busy : ∀ s v, P s → P { s with busyIn := v }
  read : ∀ s n, pendingRead s = some n → P s → P (completeRead n s)
  edge : ∀ s, P s → P (edgeTurn s)
  deadline : ∀ s, P s → P (deadlineTurn s)

namespace KeptByTurns

variable {P : State → Prop} (K : KeptByTurns P)
include K

theorem engine (s : State) (h : P s) : P (engineTurn s) := engineTurn_keeps K.read K.edge s h

theorem timeout (s : State) (h : P s) : P (timeoutTurn s) := timeoutTurn_keeps K.read s h

theorem env (e : EnvStep) (s : State) (h : P s) : P (envTurn e s) := by
  cases e with
  | rx b => exact K.rx s b h
  | busy v => exact K.busy s v h
  | timeout => exact K.timeout s h

theorem deliver (bs : Bytes) (s : State) (h : P s) : P (deliver bs s) := deliver_keeps K.rx K.engine bs s h

theorem run (ts : List Turn) (s : State) (h : P s) : P (run ts s) :=
  run_keeps K.sched K.engine K.rx K.busy K.timeout K.deadline ts s h

/-- An instruction keeps what turns keep, if its first state and its immediate meaning do. -/
theorem exec {i : Instr} {s t : State}
    (hopened : s.phase = .idle → i.wellFormed = true → mayHold i = true → P s → P (opened i s))
    (himmediate : s.phase = .idle → i.wellFormed = true → i.port = .command → mayHold i = false → P s →
      P (immediate i s))
    (h : P s) (he : exec i s = .next t) : P t := by
  obtain rfl | ⟨hidle, hwf, hport, hm, rfl⟩ | ⟨hidle, hwf, hm, rfl⟩ | ⟨f, -, rfl⟩ := exec_cases he
  · exact h
  · exact himmediate hidle hwf hport hm h
  · exact K.run _ _ (hopened hidle hwf hm h)
  · exact K.deliver _ _ h

end KeptByTurns

/-- What a property needs besides so that no step loses it: the commands' own parts and the host's turns. -/
structure KeptBySteps (P : State → Prop) : Prop extends KeptByTurns P where
  opened : ∀ i s, s.phase = .idle → i.wellFormed = true → mayHold i = true → P s → P (opened i s)
  immediate : ∀ i s, s.phase = .idle → i.wellFormed = true → i.port = .command → mayHold i = false → P s →
    P (immediate i s)
  load : ∀ image s, s.phase = .idle → P s → P (loadImage image s)
  unload : ∀ s, s.phase = .idle → P s → P (unloadImage s)
  reset : ∀ s, P s → P (applyReset s)

/-- One step of any agent. -/
theorem KeptBySteps.step {P : State → Prop} (K : KeptBySteps P) {s t : State} (h : P s) (he : step s = .next t) :
    P t := by
  cases hs : s.sched with
  | nil =>
    rw [step_none hs] at he
    exact Host.Outcome.next.inj he ▸ K.engine s h
  | cons x ts =>
    have h' : P { s with sched := ts } := K.sched s ts h
    have hexec (i : Instr) (hi : exec i { s with sched := ts } = .next t) : P t :=
      K.exec (K.opened i _) (K.immediate i _) h' hi
    cases x with
    | engine => exact Host.Outcome.next.inj ((step_engine hs).symm.trans he) ▸ K.engine _ h'
    | env e => exact Host.Outcome.next.inj ((step_env hs).symm.trans he) ▸ K.env e _ h'
    | deadline => exact Host.Outcome.next.inj ((step_deadline hs).symm.trans he) ▸ K.deadline _ h'
    | reset => exact Host.Outcome.next.inj ((step_reset hs).symm.trans he) ▸ K.reset _ h'
    | host bs =>
      obtain ⟨i, hi⟩ | hi := step_host hs
      · exact hexec i (hi ▸ he)
      · exact Host.Outcome.next.inj (hi.symm.trans he) ▸ h'
    | line bs =>
      obtain ⟨i, hi⟩ | hi := step_line hs
      · exact hexec i (hi ▸ he)
      · exact Host.Outcome.next.inj (hi.symm.trans he) ▸ K.deliver bs _ h'
    | load image =>
      by_cases hidle : s.phase = .idle
      · rw [step_load hs, if_pos hidle] at he
        exact Host.Outcome.next.inj he ▸ K.load image _ hidle h'
      · rw [step_load hs, if_neg hidle] at he
        cases he
    | unload =>
      by_cases hidle : s.phase = .idle
      · rw [step_unload hs, if_pos hidle] at he
        exact Host.Outcome.next.inj he ▸ K.unload _ hidle h'
      · rw [step_unload hs, if_neg hidle] at he
        cases he

/-! What a cancelled hold leaves alone. -/

theorem beforeCancel_same (s : State) :
    (beforeCancel s).img = s.img ∧ (beforeCancel s).imgLen = s.imgLen ∧ (beforeCancel s).imgValid = s.imgValid
    ∧ (beforeCancel s).cfg = s.cfg ∧ (beforeCancel s).busyIn = s.busyIn ∧ (beforeCancel s).sched = s.sched := by
  unfold beforeCancel
  cases s.phase <;> simp

theorem deadlineTurn_same (s : State) :
    (deadlineTurn s).img = s.img ∧ (deadlineTurn s).imgLen = s.imgLen ∧ (deadlineTurn s).imgValid = s.imgValid
    ∧ (deadlineTurn s).cfg = s.cfg ∧ (deadlineTurn s).busyIn = s.busyIn ∧ (deadlineTurn s).sched = s.sched := by
  obtain ⟨-, -, -, he⟩ | he := deadlineTurn_cases s <;> rw [he]
  · exact beforeCancel_same s
  · simp

/-- The image memory and the configuration are as they were in `s`. -/
def SameMemory (s t : State) : Prop :=
  t.img = s.img ∧ t.imgLen = s.imgLen ∧ t.imgValid = s.imgValid ∧ t.cfg = s.cfg

/-- No turn writes the image memory or the configuration (R38, R61). -/
theorem sameMemory_kept (s : State) : KeptByTurns (SameMemory s) where
  sched _ _ h := h
  rx _ _ h := h
  busy _ _ h := h
  read t n _ h := by
    obtain ⟨h1, h2, h3, h4, -, -⟩ := completeRead_same n t
    exact ⟨h1.trans h.1, h2.trans h.2.1, h3.trans h.2.2.1, h4.trans h.2.2.2⟩
  edge t h := by
    obtain ⟨h1, h2, h3, h4, -, -⟩ := edgeTurn_same t
    exact ⟨h1.trans h.1, h2.trans h.2.1, h3.trans h.2.2.1, h4.trans h.2.2.2⟩
  deadline t h := by
    obtain ⟨h1, h2, h3, h4, -, -⟩ := deadlineTurn_same t
    exact ⟨h1.trans h.1, h2.trans h.2.1, h3.trans h.2.2.1, h4.trans h.2.2.2⟩

theorem sameMemory_opened (i : Instr) (s : State) : SameMemory s (opened i s) := by
  cases i <;> exact ⟨rfl, rfl, rfl, rfl⟩

theorem sameMemory_immediate (i : Instr) (s : State) : SameMemory s (immediate i s) := by
  cases i <;> exact ⟨rfl, rfl, rfl, rfl⟩

theorem exec_sameMemory {i : Instr} {s t : State} (h : exec i s = .next t) : SameMemory s t :=
  (sameMemory_kept s).exec (fun _ _ _ _ => sameMemory_opened i s) (fun _ _ _ _ _ => sameMemory_immediate i s)
    ⟨rfl, rfl, rfl, rfl⟩ h

/-- Settles O52. -/
theorem noInstructionWritesImageOrConfiguration : Obligations.NoInstructionWritesImageOrConfiguration := by
  intro i s t h
  obtain ⟨himg, hlen, hvalid, hcfg⟩ := exec_sameMemory h
  exact ⟨fun a => by rw [himg], hlen, hvalid, hcfg⟩

/-- `t` comes after `s`: its trace goes on with some events, its wire with exactly their `Tx` bytes (R63), and every
`Baud` among them is followed by a `Drop` at once (R72 item 3). -/
def Adds (s t : State) : Prop :=
  ∃ es, t.trace = s.trace ++ es ∧ t.wire = s.wire ++ txBytes es ∧ baudThenDrop es = true

@[simp] theorem txBytes_append (a b : List Event) : txBytes (a ++ b) = txBytes a ++ txBytes b := by
  simp [txBytes]

theorem baudThenDrop_append {a b : List Event} (ha : baudThenDrop a = true) (hb : baudThenDrop b = true) :
    baudThenDrop (a ++ b) = true := by
  induction a using baudThenDrop.induct with
  | case1 => exact hb
  | case2 r d es ih => exact ih ha
  | case3 r es hne => simp [baudThenDrop] at ha
  | case4 v es ih | case5 v es ih | case6 v es ih | case7 v es ih | case8 v es ih | case9 v es ih => exact ih ha

theorem Adds.refl (s : State) : Adds s s := ⟨[], by simp [txBytes, baudThenDrop]⟩

theorem Adds.trans {s t u : State} (h : Adds s t) (h' : Adds t u) : Adds s u := by
  obtain ⟨es, htrace, hwire, hbaud⟩ := h
  obtain ⟨es', htrace', hwire', hbaud'⟩ := h'
  exact ⟨es ++ es', by simp [htrace, htrace'], by simp [hwire, hwire'], baudThenDrop_append hbaud hbaud'⟩

/-- The end of a read adds its own events. -/
theorem completeRead_adds (n : Nat) (s : State) : Adds s (completeRead n s) := by
  unfold completeRead afterRead nextBlock receiveVerdict
  cases s.phase <;> dsimp only <;> (repeat' split) <;> simp [Adds, txBytes, baudThenDrop]

theorem edgeTurn_adds (s : State) : Adds s (edgeTurn s) := by
  unfold edgeTurn sendFrame sendMessage preflight readyTest echoTest finalTest sendBlock nextBlock enterNegotiation
  cases s.phase <;> dsimp only <;> (repeat' split) <;> simp [Adds, txBytes, baudThenDrop]

theorem deadlineTurn_adds (s : State) : Adds s (deadlineTurn s) := by
  obtain ⟨-, -, -, he⟩ | he := deadlineTurn_cases s <;> rw [he]
  · unfold beforeCancel
    cases s.phase <;> simp [Adds, txBytes, baudThenDrop]
  · exact .refl s

/-- Every turn adds to trace and wire. -/
theorem adds_kept (s : State) : KeptByTurns (Adds s) where
  sched _ _ h := h
  rx _ _ h := h
  busy _ _ h := h
  read t n _ h := h.trans (completeRead_adds n t)
  edge t h := h.trans (edgeTurn_adds t)
  deadline t h := h.trans (deadlineTurn_adds t)

theorem Adds.of_same {s t : State} (htrace : t.trace = s.trace) (hwire : t.wire = s.wire) : Adds s t :=
  ⟨[], by simp [htrace], by simp [hwire, txBytes], rfl⟩

theorem opened_adds (i : Instr) (s : State) : Adds s (opened i s) := by
  cases i with
  | sbepEnter => exact ⟨[.busy true], rfl, (List.append_nil _).symm, rfl⟩
  | sbepLeave => exact ⟨[.busy false], rfl, (List.append_nil _).symm, rfl⟩
  | _ => exact .of_same rfl rfl

/-- A command without a hold adds its one event, if it has one, and its end. -/
theorem immediate_grows (i : Instr) (s : State) :
    ∃ es, (immediate i s).trace = s.trace ++ es ∧ (immediate i s).wire = s.wire ++ txBytes es := by
  cases i with
  | write bs => exact ⟨[.tx bs, .ended .ok], by simp [immediate], by simp [immediate, txBytes]⟩
  | flushIn => exact ⟨[.drop s.rxq, .ended .ok], by simp [immediate], by simp [immediate, txBytes]⟩
  | setBusy v => exact ⟨[.busy (v == 0x01#8), .ended .ok], by simp [immediate], by simp [immediate, txBytes]⟩
  | setBaud r => exact ⟨[.baud r, .ended .ok], by simp [immediate], by simp [immediate, txBytes]⟩
  | sb9600Crc | sbepChecksum | avail | flushOut | isBusy | sb9600Check =>
    exact ⟨[.ended .ok], rfl, (List.append_nil _).symm⟩
  | _ => exact ⟨[], (List.append_nil _).symm, (List.append_nil _).symm⟩

/-- Settles O53: every turn adds to trace and wire, and so does a command without a hold. -/
theorem traceAndWireOnlyGrow : Obligations.TraceAndWireOnlyGrow := by
  intro i s t h
  have hturns (u : State) (hu : Adds s u) : ∃ es, u.trace = s.trace ++ es ∧ u.wire = s.wire ++ txBytes es :=
    hu.imp fun _ hes => ⟨hes.1, hes.2.1⟩
  obtain rfl | ⟨-, -, -, -, rfl⟩ | ⟨-, -, -, rfl⟩ | ⟨f, -, rfl⟩ := exec_cases h
  · exact hturns _ (.refl _)
  · exact immediate_grows i s
  · exact hturns _ ((adds_kept s).run _ _ (opened_adds i s))
  · exact hturns _ ((adds_kept s).deliver _ _ (.refl s))

/-- Settles O35. -/
theorem bootFlushesAfterEveryRateChange : Obligations.BootFlushesAfterEveryRateChange := by
  intro s t hidle h
  rw [exec_run rfl hidle rfl] at h
  obtain ⟨es, htrace, -, hbaud⟩ := Host.Outcome.next.inj h ▸ (adds_kept s).run s.sched _ (opened_adds .boot s)
  exact ⟨es, htrace, hbaud⟩

end Sys2Proof.Proofs

/-! PROOFS. The edges of 10_state.md R47, one equation each: what the end of a read does in every phase that reads, and
what the engine's turn does in every other phase. -/

namespace Sys2Proof.Proofs

open Sys2Proof.Machine Sys2Proof.Safety

section Edges

variable {s : State}

theorem afterRead_tRead (h : s.phase = .tRead) (r : Bytes) :
    afterRead r s = finishOp (.bytes r) (emit (.rx r) s) := by unfold afterRead; rw [h]

theorem afterRead_tQuiet (h : s.phase = .tQuiet) (r : Bytes) :
    afterRead r s = if r = [] then finishOp .none { emit (.drop r) s with timeout := s.savedTimeout }
      else emit (.drop r) s := by unfold afterRead; rw [h]; rfl

theorem afterRead_sbReadback (h : s.phase = .sbReadback) (r : Bytes) :
    afterRead r s = if r = frameBytes s.w.frame
      then { driveBusy false (setRxbuf r (emit (.rx r) s)) with phase := .sbWaitRelease }
      else raiseError .transmitMismatch (setRxbuf r (emit (.rx r) s)) := by
  unfold afterRead; rw [h]; rfl

theorem afterRead_epEnterAck (h : s.phase = .epEnterAck) (r : Bytes) :
    afterRead r s = if r = [ackByte] then finishOp .none { emit (.rx r) s with sbepMode := true }
      else raiseError .notAcknowledged { driveBusy false (emit (.rx r) s) with sbepMode := false } := by
  unfold afterRead; rw [h]

theorem afterRead_epReadback (h : s.phase = .epReadback) (r : Bytes) :
    afterRead r s = if r = s.w.txbuf then { setRxbuf r (emit (.rx r) s) with phase := .epAck }
      else raiseError .transmitMismatch (setRxbuf r (emit (.rx r) s)) := by
  unfold afterRead; rw [h]; rfl

theorem afterRead_epAck (h : s.phase = .epAck) (r : Bytes) :
    afterRead r s = if r = [ackByte] then finishOp .none (emit (.rx r) s)
      else raiseError .notAcknowledged (emit (.rx r) s) := by unfold afterRead; rw [h]

/-- The four phases in which `SBEP_RECEIVE` reads one header byte (R28). -/
def inHeader : Phase → Bool
  | .epRxHdr | .epRxExtop | .epRxPlaceholder | .epRxExtlen => true
  | _ => false

/-- The phase after a header byte `b`, read in phase `p` with the header bytes `header` before it (R47, R203). -/
def afterByte (p : Phase) (header : Bytes) (b : Byte) : Phase :=
  match p with
  | .epRxHdr => afterHeaderByte b
  | .epRxExtop => if lengthExtended (header.getD 0 0) then .epRxExtlen else .epRxPayload
  | .epRxPlaceholder => .epRxExtlen
  | _ => .epRxPayload

/-- A header byte leads on inside `SBEP_RECEIVE`. -/
theorem inReceive_afterByte (p : Phase) (header : Bytes) (b : Byte) : inReceive (afterByte p header b) = true := by
  unfold afterByte afterHeaderByte
  repeat' split
  all_goals rfl

/-- The phases of `SBEP_RECEIVE` are those of the header bytes and the one of the payload. -/
theorem inReceive_cases {p : Phase} (h : inReceive p = true) : inHeader p = true ∨ p = .epRxPayload := by
  cases p <;> simp_all [inReceive, inHeader]

/-- The header bytes read so far: those of the phases after the first are in `RXBUF` (R203). -/
def headerSoFar (s : State) : Bytes := if s.phase = .epRxHdr then [] else s.w.rxbuf

theorem afterRead_header_cons (h : inHeader s.phase = true) (b : Byte) (r : Bytes) :
    afterRead (b :: r) s = { setRxbuf (headerSoFar s ++ [b]) (emit (.rx (b :: r)) s) with
      phase := afterByte s.phase s.w.rxbuf b } := by
  unfold afterRead headerSoFar
  cases hp : s.phase <;> simp only [hp, inHeader, Bool.false_eq_true] at h <;> rfl

theorem afterRead_header_nil (h : inHeader s.phase = true) :
    afterRead [] s = raiseError .checksumFailure (emit (.rx []) s) := by
  unfold afterRead
  cases hp : s.phase <;> simp only [hp, inHeader, Bool.false_eq_true] at h <;> rfl

theorem afterRead_epRxPayload (h : s.phase = .epRxPayload) (r : Bytes) :
    afterRead r s = if r.length < headerDataLen s.w.rxbuf then raiseError .checksumFailure (emit (.rx r) s)
      else receiveVerdict r (emit (.rx r) s) := by unfold afterRead; rw [h]; rfl

theorem receiveVerdict_some {payload data : Bytes} {opcode : Byte}
    (h : frameVerdict s.w.rxbuf payload = some (opcode, data)) :
    receiveVerdict payload s = endOp .ok .none [.acc]
      (loseRxbuf (setMessage opcode data (setRxbuf (s.w.rxbuf ++ payload) s))) := by simp only [receiveVerdict, h]

theorem receiveVerdict_none {payload : Bytes} (h : frameVerdict s.w.rxbuf payload = none) :
    receiveVerdict payload s = raiseError .checksumFailure (setRxbuf (s.w.rxbuf ++ payload) s) := by
  simp only [receiveVerdict, h]

theorem afterRead_btNegotiate (h : s.phase = .btNegotiate) (r : Bytes) :
    afterRead r s = if r = [triggerByte, triggerAckByte]
      then nextBlock { emit (.rx r) { s with w := { s.w with resp := r } } with cursor := 0x80#13 }
      else emit (.rx r) { s with w := { s.w with resp := r } } := by unfold afterRead; rw [h]

/-- A held read takes nothing until it has all its bytes (R153). -/
theorem engineTurn_short {n : Nat} (h : pendingRead s = some n) (hn : s.rxq.length < n) : engineTurn s = s := by
  simp [engineTurn, h, hn]

theorem engineTurn_read {n : Nat} (h : pendingRead s = some n) (hn : n ≤ s.rxq.length) :
    engineTurn s = completeRead n s := by simp [engineTurn, h, hn]

theorem timeoutTurn_read {n : Nat} (h : pendingRead s = some n) (hn : s.rxq.length < n) :
    timeoutTurn s = completeRead n s := by simp [timeoutTurn, h, hn]

theorem timeoutTurn_full {n : Nat} (h : pendingRead s = some n) (hn : n ≤ s.rxq.length) : timeoutTurn s = s := by
  simp [timeoutTurn, h, hn]

theorem timeoutTurn_none (h : pendingRead s = none) : timeoutTurn s = s := by simp [timeoutTurn, h]

theorem engineTurn_edge (h : pendingRead s = none) : engineTurn s = edgeTurn s := by simp [engineTurn, h]

theorem edgeTurn_sbWaitFree (h : s.phase = .sbWaitFree) :
    edgeTurn s = if s.busyIn then s else { s with phase := .sbXmit } := by
  unfold edgeTurn; rw [h]; rfl

theorem edgeTurn_sbXmit (h : s.phase = .sbXmit) : edgeTurn s = sendFrame s := by
  unfold edgeTurn; rw [h]

theorem edgeTurn_sbWaitRelease (h : s.phase = .sbWaitRelease) :
    edgeTurn s = if s.busyIn then s else finishOp .none s := by unfold edgeTurn; rw [h]; rfl

theorem edgeTurn_epLeaveWait (h : s.phase = .epLeaveWait) :
    edgeTurn s = if s.busyIn then s else finishOp .none { s with sbepMode := false } := by
  unfold edgeTurn; rw [h]; rfl

theorem edgeTurn_epXmit (h : s.phase = .epXmit) : edgeTurn s = sendMessage s := by
  unfold edgeTurn; rw [h]

theorem edgeTurn_btPreflight (h : s.phase = .btPreflight) : edgeTurn s = preflight s := by
  unfold edgeTurn; rw [h]

theorem edgeTurn_btReadyWait (h : s.phase = .btReadyWait) :
    edgeTurn s = if 8 ≤ s.rxq.length then readyTest s else s := by unfold edgeTurn; rw [h]

theorem edgeTurn_btBlockSend (h : s.phase = .btBlockSend) : edgeTurn s = sendBlock s := by
  unfold edgeTurn; rw [h]

theorem edgeTurn_btBlockEcho (h : s.phase = .btBlockEcho) :
    edgeTurn s = if 16 ≤ s.rxq.length then echoTest s else s := by unfold edgeTurn; rw [h]

theorem edgeTurn_btFinalWait (h : s.phase = .btFinalWait) :
    edgeTurn s = if 1 ≤ s.rxq.length then finalTest s else s := by unfold edgeTurn; rw [h]

/-- The phases that read, as the phases with no other edge. -/
theorem edgeTurn_reads {n : Nat} (h : pendingRead s = some n) : edgeTurn s = s := by
  cases hp : s.phase <;> simp_all [edgeTurn, pendingRead]

theorem edgeTurn_idle (h : s.phase = .idle) : edgeTurn s = s := by unfold edgeTurn; rw [h]

theorem beforeCancel_epEnterAck (h : s.phase = .epEnterAck) :
    beforeCancel s = { driveBusy false s with sbepMode := false } := by unfold beforeCancel; rw [h]

theorem beforeCancel_tQuiet (h : s.phase = .tQuiet) : beforeCancel s = { s with timeout := s.savedTimeout } := by
  unfold beforeCancel; rw [h]

theorem beforeCancel_other (h : s.phase ≠ .epEnterAck) (h' : s.phase ≠ .tQuiet) : beforeCancel s = s := by
  cases hp : s.phase <;> simp_all [beforeCancel]

end Edges

end Sys2Proof.Proofs

/-! PROOFS. Phase and status say how trace and wire end, and who holds BUSY: the invariant phase by phase, kept by every
edge of R47 and by every step (10_state.md R34, 20_memory.md R70). -/

namespace Sys2Proof.Proofs

open Sys2Proof.Machine Sys2Proof.Safety

/-- What the status of an ended operation says of the end of the trace. -/
def StatusSays (k : Status) (trace : List Event) : Prop :=
  match k with
  | .transmitMismatch => ∃ d f r, r ≠ f ∧ r.length ≤ f.length
    ∧ [.drop d, .tx f, .rx r, .ended .transmitMismatch] <:+ trace
  | .notAcknowledged => ∃ r, r ≠ [ackByte] ∧ r.length ≤ 1
    ∧ ([.busy true, .rx r, .busy false, .ended .notAcknowledged] <:+ trace
      ∨ ∃ d f, [.drop d, .tx f, .rx f, .rx r, .ended .notAcknowledged] <:+ trace)
  | .echoMismatch => ∃ b r, r ≠ b ++ b ∧ [.tx b, .rx r, .ended .echoMismatch] <:+ trace
  | .bootstrapFailed => ∃ d r, r ≠ [ackByte]
    ∧ [.baud 115200, .drop d, .rx r, .ended .bootstrapFailed] <:+ trace
  | _ => True

/-- What one phase says: the clauses of `TraceOk` that speak of it. -/
def PhaseSays (p : Phase) (s : State) : Prop :=
  match p with
  | .sbReadback => s.busyOut = true ∧ frameBytes s.w.frame <:+ s.wire
    ∧ ∃ d, [.busy true, .drop d, .tx (frameBytes s.w.frame)] <:+ s.trace
  | .sbWaitRelease => s.busyOut = false ∧ frameBytes s.w.frame <:+ s.wire
    ∧ ∃ d, [.busy true, .drop d, .tx (frameBytes s.w.frame), .rx (frameBytes s.w.frame), .busy false] <:+ s.trace
  | .epEnterAck => s.busyOut = true ∧ [.busy true] <:+ s.trace
  | .epLeaveWait => s.busyOut = false ∧ [.busy false] <:+ s.trace
  | .epXmit => s.w.data.length ≤ 254
  | .epReadback => s.w.txlen.toNat = s.w.txbuf.length ∧ s.w.txbuf <:+ s.wire
    ∧ ∃ d, [.drop d, .tx s.w.txbuf] <:+ s.trace
  | .epAck => s.w.txbuf <:+ s.wire ∧ ∃ d, [.drop d, .tx s.w.txbuf, .rx s.w.txbuf] <:+ s.trace
  | .btBlockEcho => s.w.blk <:+ s.wire ∧ [.tx s.w.blk] <:+ s.trace
  | .btFinalWait => s.baud = 115200 ∧ ∃ d, [.baud 115200, .drop d] <:+ s.trace
  | .idle => (s.trace = [] ∨ [.ended s.status] <:+ s.trace) ∧ StatusSays s.status s.trace
  | _ => True

theorem phaseSays_of_traceOk {s : State} {p : Phase} (h : TraceOk s) (hp : s.phase = p) : PhaseSays p s := by
  cases p
  case sbReadback => exact h.sbReadback hp
  case sbWaitRelease => exact h.sbWaitRelease hp
  case epEnterAck => exact h.epEnterAck hp
  case epLeaveWait => exact h.epLeaveWait hp
  case epXmit => exact h.epXmit hp
  case epReadback => exact h.epReadback hp
  case epAck => exact h.epAck hp
  case btBlockEcho => exact h.btBlockEcho hp
  case btFinalWait => exact h.btFinalWait hp
  case idle =>
    refine ⟨h.idle hp, ?_⟩
    cases hk : s.status
    case transmitMismatch => exact h.transmitMismatch hp hk
    case notAcknowledged => exact h.notAcknowledged hp hk
    case echoMismatch => exact h.echoMismatch hp hk
    case bootstrapFailed => exact h.bootstrapFailed hp hk
    all_goals exact True.intro
  all_goals exact True.intro

/-- The clauses of the other phases are empty. -/
theorem traceOk_of_phaseSays {s : State} {p : Phase} (hp : s.phase = p) (h : PhaseSays p s) : TraceOk s := by
  subst hp
  constructor
  case idle => intro hp; rw [hp] at h; exact h.1
  case transmitMismatch | notAcknowledged | echoMismatch | bootstrapFailed =>
    intro hp hk
    rw [hp] at h
    have := h.2
    rw [hk] at this
    exact this
  all_goals intro hp; rw [hp] at h; exact h

/-- What the trace and the wire end with stays at their end when both go on alike. -/
theorem suffix_append {α : Type} {a l : List α} (h : a <:+ l) (b : List α) : a ++ b <:+ l ++ b := by
  obtain ⟨p, rfl⟩ := h
  exact ⟨p, (List.append_assoc ..).symm⟩

/-- The end of an operation: the trace ends with `End`, and only the four statuses say more. -/
theorem traceOk_endOp {k : Status} {res : Result} {lost : List Slot} {s : State}
    (h : StatusSays k (s.trace ++ [.ended k])) : TraceOk (endOp k res lost s) :=
  traceOk_of_phaseSays (p := .idle) rfl ⟨.inr (List.suffix_append ..), h⟩

theorem traceOk_finishOp (res : Result) (s : State) : TraceOk (finishOp res s) := traceOk_endOp True.intro

theorem traceOk_raiseError {k : Status} {s : State} (h : StatusSays k (s.trace ++ [.ended k])) :
    TraceOk (raiseError k s) := traceOk_endOp h

/-- The block loop's test: a block to be sent, of which nothing is said, or finalization. -/
theorem traceOk_nextBlock (s : State) : TraceOk (nextBlock s) := by
  unfold nextBlock
  split
  · exact traceOk_of_phaseSays (p := .btBlockSend) rfl True.intro
  · exact traceOk_of_phaseSays (p := .btFinalWait) rfl ⟨rfl, s.rxq, s.trace, by simp⟩

/-- The frame read back releases the bus; anything else is a mismatch with BUSY left as it is (R183, R184). -/
theorem traceOk_afterRead_sbReadback {s : State} {r : Bytes} (hp : s.phase = .sbReadback) (hr : r.length ≤ 5)
    (h : TraceOk s) : TraceOk (afterRead r s) := by
  obtain ⟨-, hwire, d, htrace⟩ := h.sbReadback hp
  rw [afterRead_sbReadback hp]
  split
  · next heq =>
    refine traceOk_of_phaseSays (p := .sbWaitRelease) rfl ⟨rfl, hwire, d, ?_⟩
    simpa [heq] using suffix_append htrace [.rx r, .busy false]
  · next hne =>
    refine traceOk_raiseError ⟨d, frameBytes s.w.frame, r, hne, hr, ?_⟩
    obtain ⟨pre, htrace⟩ := htrace
    exact ⟨pre ++ [.busy true], by simp [← htrace]⟩

/-- The acknowledgement enters the mode; anything else releases the bus (R206). -/
theorem traceOk_afterRead_epEnterAck {s : State} {r : Bytes} (hp : s.phase = .epEnterAck) (hr : r.length ≤ 1)
    (h : TraceOk s) : TraceOk (afterRead r s) := by
  obtain ⟨-, htrace⟩ := h.epEnterAck hp
  rw [afterRead_epEnterAck hp]
  split
  · exact traceOk_finishOp ..
  · next hne =>
    refine traceOk_raiseError ⟨r, hne, hr, .inl ?_⟩
    simpa using suffix_append htrace [.rx r, .busy false, .ended .notAcknowledged]

/-- The message read back is followed by the wait for the acknowledgement; anything else is a mismatch (R208). -/
theorem traceOk_afterRead_epReadback {s : State} {r : Bytes} (hp : s.phase = .epReadback)
    (hr : r.length ≤ s.w.txlen.toNat) (h : TraceOk s) : TraceOk (afterRead r s) := by
  obtain ⟨hlen, hwire, d, htrace⟩ := h.epReadback hp
  rw [afterRead_epReadback hp]
  split
  · next heq =>
    refine traceOk_of_phaseSays (p := .epAck) rfl ⟨hwire, d, ?_⟩
    simpa [heq] using suffix_append htrace [.rx r]
  · next hne =>
    refine traceOk_raiseError ⟨d, s.w.txbuf, r, hne, hlen ▸ hr, ?_⟩
    simpa using suffix_append htrace [.rx r, .ended .transmitMismatch]

/-- The acknowledgement completes the send; anything else fails it (R208, R209). -/
theorem traceOk_afterRead_epAck {s : State} {r : Bytes} (hp : s.phase = .epAck) (hr : r.length ≤ 1)
    (h : TraceOk s) : TraceOk (afterRead r s) := by
  obtain ⟨-, d, htrace⟩ := h.epAck hp
  rw [afterRead_epAck hp]
  split
  · exact traceOk_finishOp ..
  · next hne =>
    refine traceOk_raiseError ⟨r, hne, hr, .inr ⟨d, s.w.txbuf, ?_⟩⟩
    simpa using suffix_append htrace [.rx r, .ended .notAcknowledged]

theorem phaseSays_of_inReceive {p : Phase} (h : inReceive p = true) (s : State) : PhaseSays p s := by
  cases p <;> first | exact True.intro | cases h

/-- A read of `SBEP_RECEIVE` leads on inside it or to an end of which no more is said than `End` (R210, R211). -/
theorem traceOk_afterRead_receive {s : State} (hp : inReceive s.phase = true) (r : Bytes) :
    TraceOk (afterRead r s) := by
  obtain hh | hpay := inReceive_cases hp
  · cases r with
    | nil =>
      rw [afterRead_header_nil hh]
      exact traceOk_raiseError True.intro
    | cons b r =>
      rw [afterRead_header_cons hh]
      exact traceOk_of_phaseSays rfl (phaseSays_of_inReceive (inReceive_afterByte ..) _)
  · rw [afterRead_epRxPayload hpay]
    split
    · exact traceOk_raiseError True.intro
    · cases hv : frameVerdict (emit (.rx r) s).w.rxbuf r with
      | some v =>
        rw [receiveVerdict_some hv]
        exact traceOk_endOp True.intro
      | none =>
        rw [receiveVerdict_none hv]
        exact traceOk_raiseError True.intro

/-- A read of at most as many bytes as it asks for. -/
theorem traceOk_afterRead {s : State} {r : Bytes} {n : Nat} (hn : pendingRead s = some n) (hr : r.length ≤ n)
    (h : TraceOk s) : TraceOk (afterRead r s) := by
  cases hp : s.phase <;> simp only [pendingRead, hp, Option.some.injEq, reduceCtorEq] at hn
  case tRead =>
    rw [afterRead_tRead hp]
    exact traceOk_finishOp ..
  case tQuiet =>
    rw [afterRead_tQuiet hp]
    split
    · exact traceOk_finishOp ..
    · exact traceOk_of_phaseSays (p := .tQuiet) hp True.intro
  case sbReadback => exact traceOk_afterRead_sbReadback hp (hn ▸ hr) h
  case epEnterAck => exact traceOk_afterRead_epEnterAck hp (hn ▸ hr) h
  case epReadback => exact traceOk_afterRead_epReadback hp (hn ▸ hr) h
  case epAck => exact traceOk_afterRead_epAck hp (hn ▸ hr) h
  case btNegotiate =>
    rw [afterRead_btNegotiate hp]
    split
    · exact traceOk_nextBlock _
    · exact traceOk_of_phaseSays (p := .btNegotiate) hp True.intro
  case epRxHdr | epRxExtop | epRxPlaceholder | epRxExtlen | epRxPayload =>
    exact traceOk_afterRead_receive (by rw [hp]; rfl) r

/-- What the queue, the peer's line and the turns to come are makes no difference. -/
theorem traceOk_congr {s : State} (q : Bytes) (v : Bool) (x : List Turn) (h : TraceOk s) :
    TraceOk { s with rxq := q, busyIn := v, sched := x } :=
  have hsays : PhaseSays s.phase s := phaseSays_of_traceOk h rfl
  traceOk_of_phaseSays (p := s.phase) rfl hsays

theorem traceOk_completeRead {s : State} {n : Nat} (hn : pendingRead s = some n) (h : TraceOk s) :
    TraceOk (completeRead n s) :=
  traceOk_afterRead (s := { s with rxq := s.rxq.drop n }) hn (List.length_take_le ..) (traceOk_congr _ _ _ h)

/-- The message of at most 254 data bytes is written whole, and its length fits its register (R16, R208). -/
theorem traceOk_sendMessage {s : State} (hp : s.phase = .epXmit) (h : TraceOk s) : TraceOk (sendMessage s) := by
  have hlen := sbepFrame_length_le s.w.opcode s.w.data (h.epXmit hp)
  refine traceOk_of_phaseSays (p := .epReadback) rfl
    ⟨?_, List.suffix_append .., s.rxq, s.trace, by simp [sendMessage]⟩
  simp [sendMessage]
  omega

/-- The echo moves on or ends with the block and what was read in its place (R252). -/
theorem traceOk_echoTest {s : State} (hp : s.phase = .btBlockEcho) (h : TraceOk s) : TraceOk (echoTest s) := by
  obtain ⟨-, htrace⟩ := h.btBlockEcho hp
  simp only [echoTest]
  split
  · exact traceOk_nextBlock _
  · next hne =>
    refine traceOk_raiseError ⟨s.w.blk, s.rxq.take 16, hne, ?_⟩
    simpa using suffix_append htrace [.rx (s.rxq.take 16), .ended .echoMismatch]

/-- The final response ends the operation (R256). -/
theorem traceOk_finalTest {s : State} (hp : s.phase = .btFinalWait) (h : TraceOk s) : TraceOk (finalTest s) := by
  obtain ⟨-, d, htrace⟩ := h.btFinalWait hp
  simp only [finalTest]
  split
  · exact traceOk_finishOp ..
  · next hne =>
    refine traceOk_raiseError ⟨d, s.rxq, hne, ?_⟩
    simpa using suffix_append htrace [.rx s.rxq, .ended .bootstrapFailed]

theorem traceOk_edgeTurn {s : State} (h : TraceOk s) : TraceOk (edgeTurn s) := by
  cases hp : s.phase
  case sbWaitFree =>
    rw [edgeTurn_sbWaitFree hp]
    split
    · exact h
    · exact traceOk_of_phaseSays (p := .sbXmit) rfl True.intro
  case sbXmit =>
    rw [edgeTurn_sbXmit hp]
    exact traceOk_of_phaseSays (p := .sbReadback) rfl
      ⟨rfl, List.suffix_append .., s.rxq, s.trace, by simp [sendFrame]⟩
  case sbWaitRelease =>
    rw [edgeTurn_sbWaitRelease hp]
    split
    · exact h
    · exact traceOk_finishOp ..
  case epLeaveWait =>
    rw [edgeTurn_epLeaveWait hp]
    split
    · exact h
    · exact traceOk_finishOp ..
  case epXmit =>
    rw [edgeTurn_epXmit hp]
    exact traceOk_sendMessage hp h
  case btPreflight =>
    rw [edgeTurn_btPreflight hp]
    unfold preflight
    split
    · exact traceOk_raiseError True.intro
    · exact traceOk_of_phaseSays (p := .btReadyWait) rfl True.intro
  case btReadyWait =>
    rw [edgeTurn_btReadyWait hp]
    split
    · simp only [readyTest]
      split
      · exact traceOk_of_phaseSays (p := .btNegotiate) rfl True.intro
      · exact traceOk_of_phaseSays (p := .btReadyWait) hp True.intro
    · exact h
  case btBlockSend =>
    rw [edgeTurn_btBlockSend hp]
    exact traceOk_of_phaseSays (p := .btBlockEcho) rfl ⟨List.suffix_append .., List.suffix_append ..⟩
  case btBlockEcho =>
    rw [edgeTurn_btBlockEcho hp]
    split
    · exact traceOk_echoTest hp h
    · exact h
  case btFinalWait =>
    rw [edgeTurn_btFinalWait hp]
    split
    · exact traceOk_finalTest hp h
    · exact h
  case idle => rwa [edgeTurn_idle hp]
  all_goals rwa [edgeTurn_reads (by unfold pendingRead; rw [hp])]

/-- A cancelled operation has ended, and its status says no more. -/
theorem traceOk_deadlineTurn {s : State} (h : TraceOk s) : TraceOk (deadlineTurn s) := by
  obtain ⟨-, -, -, he⟩ | he := deadlineTurn_cases s <;> rw [he]
  · exact traceOk_raiseError True.intro
  · exact h

theorem traceOk_opened {i : Instr} {s : State} (hwf : i.wellFormed = true) (h : TraceOk s) : TraceOk (opened i s) := by
  cases i
  case sbepEnter => exact traceOk_of_phaseSays (p := .epEnterAck) rfl ⟨rfl, List.suffix_append ..⟩
  case sbepLeave => exact traceOk_of_phaseSays (p := .epLeaveWait) rfl ⟨rfl, List.suffix_append ..⟩
  case sbepSend opcode data =>
    have hlen : data.length ≤ 254 := of_decide_eq_true hwf
    exact traceOk_of_phaseSays (p := .epXmit) rfl hlen
  case read => exact traceOk_of_phaseSays (p := .tRead) rfl True.intro
  case waitForQuiet => exact traceOk_of_phaseSays (p := .tQuiet) rfl True.intro
  case sb9600Send => exact traceOk_of_phaseSays (p := .sbWaitFree) rfl True.intro
  case sbepReceive => exact traceOk_of_phaseSays (p := .epRxHdr) rfl True.intro
  case boot => exact traceOk_of_phaseSays (p := .btPreflight) rfl True.intro
  all_goals exact h

theorem traceOk_immediate {i : Instr} {s : State} (h : TraceOk s) : TraceOk (immediate i s) := by
  cases i
  case sb9600Crc | sbepChecksum | write | avail | flushIn | flushOut | setBusy | isBusy | setBaud | sb9600Check =>
    exact traceOk_endOp True.intro
  all_goals exact h

theorem traceOk_kept : KeptBySteps TraceOk where
  sched s x h := traceOk_congr s.rxq s.busyIn x h
  rx s b h := traceOk_congr _ s.busyIn s.sched h
  busy s v h := traceOk_congr s.rxq v s.sched h
  read _ _ hn h := traceOk_completeRead hn h
  edge _ h := traceOk_edgeTurn h
  deadline _ h := traceOk_deadlineTurn h
  opened _ _ _ hwf _ h := traceOk_opened hwf h
  immediate _ _ _ _ _ _ h := traceOk_immediate h
  load image s hidle h := by
    have hsays : PhaseSays .idle s := phaseSays_of_traceOk h hidle
    unfold loadImage
    split
    · exact traceOk_of_phaseSays (p := .idle) hidle hsays
    · exact h
  unload s hidle h :=
    have hsays : PhaseSays .idle s := phaseSays_of_traceOk h hidle
    traceOk_of_phaseSays (p := .idle) hidle hsays
  reset s _ := traceOk_of_phaseSays (p := .idle) rfl ⟨.inl rfl, True.intro⟩

/-- Settles O60: the invariant holds of the empty trace of reset, and every step keeps it. -/
theorem traceEndsAsPhaseAndStatusSay : Obligations.TraceEndsAsPhaseAndStatusSay :=
  ⟨traceOk_of_phaseSays (p := .idle) rfl ⟨.inl rfl, True.intro⟩, fun _ _ h he => traceOk_kept.step h he⟩

end Sys2Proof.Proofs

/-! PROOFS. The header bytes that `SBEP_RECEIVE` has read in each of its phases (30_encoding.md R99, 43_sbep.md
R203). -/

namespace Sys2Proof.Proofs

open Sys2Proof.Machine Sys2Proof.Safety

/-- What the header bytes read so far are in a phase of `SBEP_RECEIVE`. -/
def HeaderFits (p : Phase) (b : Bytes) : Prop :=
  match p with
  | .epRxHdr => b = []
  | .epRxExtop => b.length = 1 ∧ opcodeExtended (b.getD 0 0) = true
  | .epRxPlaceholder => b.length = 1 ∧ opcodeExtended (b.getD 0 0) = false ∧ lengthExtended (b.getD 0 0) = true
  | .epRxExtlen => b.length = 2 ∧ lengthExtended (b.getD 0 0) = true
  | .epRxPayload => b.length = headerLen (b.getD 0 0)
  | _ => True

/-- One more header byte leads to the phase whose header bytes those are. -/
theorem headerFits_afterByte {p : Phase} {b : Bytes} (hp : inHeader p = true) (h : HeaderFits p b) (x : Byte) :
    HeaderFits (afterByte p b x) (b ++ [x]) := by
  cases p <;> simp only [inHeader, Bool.false_eq_true] at hp
  case epRxHdr =>
    obtain rfl : b = [] := h
    simp only [afterByte, afterHeaderByte]
    cases ho : opcodeExtended x <;> cases hl : lengthExtended x <;> simp [HeaderFits, headerLen, ho, hl]
  case epRxExtop =>
    obtain ⟨hlen, ho⟩ := h
    obtain ⟨y, rfl⟩ := List.length_eq_one_iff.mp hlen
    have ho : opcodeExtended y = true := ho
    simp only [afterByte]
    cases hl : lengthExtended y <;> simp [HeaderFits, headerLen, ho, hl]
  case epRxPlaceholder =>
    obtain ⟨hlen, -, hl⟩ := h
    obtain ⟨y, rfl⟩ := List.length_eq_one_iff.mp hlen
    exact ⟨rfl, hl⟩
  case epRxExtlen =>
    obtain ⟨hlen, hl⟩ := h
    obtain ⟨y, z, rfl⟩ := List.length_eq_two.mp hlen
    have hl : lengthExtended y = true := hl
    simp [afterByte, HeaderFits, headerLen, hl]

/-- A header still being read has fewer bytes than its first byte announces. -/
theorem headerFits_length_lt {p : Phase} {b : Bytes} (hp : inHeader p = true) (h : HeaderFits p b) :
    b = [] ∨ b.length < headerLen (b.getD 0 0) := by
  cases p <;> simp only [inHeader, Bool.false_eq_true] at hp
  case epRxHdr => exact .inl h
  case epRxExtop =>
    obtain ⟨hlen, ho⟩ := h
    right
    rw [hlen, headerLen, if_pos ho]
    split <;> decide
  case epRxPlaceholder =>
    obtain ⟨hlen, -, hl⟩ := h
    exact .inr (by rw [hlen, headerLen, if_pos hl]; decide)
  case epRxExtlen =>
    obtain ⟨hlen, hl⟩ := h
    exact .inr (by rw [hlen, headerLen, if_pos hl]; decide)

theorem headerLen_le (h : Byte) : headerLen h ≤ 3 := by
  unfold headerLen
  split
  · exact le_rfl
  · split <;> omega

theorem headerDataLen_le (b : Bytes) : headerDataLen b ≤ 255 := by
  unfold headerDataLen
  split <;> omega

theorem headerFits_length_le {p : Phase} {b : Bytes} (hp : inHeader p = true) (h : HeaderFits p b) :
    b.length ≤ 2 := by
  obtain rfl | hlt := headerFits_length_lt hp h
  · simp
  · have := headerLen_le (b.getD 0 0)
    omega

/-- The clause of the invariant about `SBEP_RECEIVE` is about the header bytes read so far. -/
theorem receiveOk_iff (s : State) : receiveOk s ↔ HeaderFits s.phase (headerSoFar s) := by
  cases hp : s.phase <;> simp [receiveOk, HeaderFits, headerSoFar, hp]

/-- After the first byte the header bytes read so far stand in `RXBUF`. -/
theorem afterByte_ne_hdr (p : Phase) (header : Bytes) (b : Byte) : afterByte p header b ≠ .epRxHdr := by
  unfold afterByte afterHeaderByte
  repeat' split
  all_goals exact nofun

/-- The next phase asks for the first header byte only where it stands in `RXBUF`. -/
theorem afterByte_headerSoFar (s : State) (b : Byte) :
    afterByte s.phase s.w.rxbuf b = afterByte s.phase (headerSoFar s) b := by
  cases hp : s.phase <;> simp [afterByte, headerSoFar, hp]

end Sys2Proof.Proofs

/-! PROOFS. The invariant of a consistent state: a part that no phase speaks of and a part for each phase, both kept by
every edge of R47 and by every step (10_state.md R22 to R43, 20_memory.md R63, R75). -/

namespace Sys2Proof.Proofs

open Sys2Proof.Machine Sys2Proof.Safety

/-- The part of the invariant that no phase speaks of. -/
def Lasting (s : State) : Prop :=
  configOk s.cfg ∧ s.baud ∈ legalRates ∧ cursorOk s.cursor ∧ s.img.wf = true ∧ workingOk s.w ∧ wireOk s

/-- Outside `BOOT` and `WAIT_FOR_QUIET`. -/
def Outside (s : State) : Prop := s.session = none ∧ s.timeout = s.cfg.readTimeout

/-- The frame invariant of R22. -/
def FrameBuilt (s : State) : Prop :=
  frameBytes s.w.frame
    = sb9600Frame s.cfg.table s.w.frame.address s.w.frame.subaddress s.w.frame.value s.w.frame.operation

/-- In `BOOT` after preflight: the session holds the image of the image memory, the rate and the patterns (R75,
R232). -/
def Latched (s : State) : Prop :=
  s.session = some { bootImage := some (memRead s.img s.imgLen.toNat 0 s.imgLen.toNat)
                     baud := s.cfg.bootBaud, readySet := s.cfg.readySet }
  ∧ s.imgValid = true ∧ s.imgLen.toNat ≤ 4096 ∧ s.timeout = s.cfg.readTimeout

/-- The part of the invariant that one phase speaks of. -/
def PhaseFits (p : Phase) (s : State) : Prop :=
  match p with
  | .idle | .tRead | .epXmit | .epReadback | .epAck | .epRxHdr => Outside s
  | .tQuiet => s.session = none ∧ s.savedTimeout = s.cfg.readTimeout
  | .sbWaitFree | .sbXmit => Outside s ∧ FrameBuilt s
  | .sbReadback => Outside s ∧ FrameBuilt s ∧ s.busyOut = true
  | .sbWaitRelease => Outside s ∧ FrameBuilt s ∧ s.busyOut = false
  | .epEnterAck => Outside s ∧ s.busyOut = true
  | .epLeaveWait => Outside s ∧ s.busyOut = false
  | .epRxExtop => Outside s ∧ HeaderFits .epRxExtop s.w.rxbuf
  | .epRxPlaceholder => Outside s ∧ HeaderFits .epRxPlaceholder s.w.rxbuf
  | .epRxExtlen => Outside s ∧ HeaderFits .epRxExtlen s.w.rxbuf
  | .epRxPayload => Outside s ∧ HeaderFits .epRxPayload s.w.rxbuf
  | .btPreflight => s.session = some { bootImage := none, baud := s.cfg.bootBaud, readySet := s.cfg.readySet }
    ∧ s.timeout = s.cfg.readTimeout
  | .btReadyWait | .btNegotiate | .btFinalWait => Latched s
  | .btBlockSend | .btBlockEcho => Latched s ∧ s.cursor.toNat < (sessionImage s).length

/-- A session is what its three parts are. -/
theorem exists_session_iff {o : Option Session} {b : Nat} {r : List Bytes} {i : Option Bytes} :
    (∃ x, o = some x ∧ x.baud = b ∧ x.readySet = r ∧ x.bootImage = i)
      ↔ o = some { bootImage := i, baud := b, readySet := r } := by
  constructor
  · rintro ⟨x, rfl, rfl, rfl, rfl⟩
    rfl
  · rintro rfl
    exact ⟨_, rfl, rfl, rfl, rfl⟩

theorem exists_session_and_iff {o : Option Session} {b : Nat} {r : List Bytes} {i : Option Bytes} {q : Prop} :
    (∃ x, o = some x ∧ x.baud = b ∧ x.readySet = r ∧ x.bootImage = i ∧ q)
      ↔ o = some { bootImage := i, baud := b, readySet := r } ∧ q := by
  simp only [← exists_session_iff, ← exists_and_right, and_assoc]

/-- The clauses of the invariant that name phases, for the phase the state is in. -/
theorem phaseFits_iff (s : State) :
    PhaseFits s.phase s ↔ sessionOk s ∧ receiveOk s ∧ busyOk s ∧ frameOk s ∧ timeoutOk s := by
  cases hp : s.phase <;>
    simp [PhaseFits, Outside, Latched, FrameBuilt, sessionOk, receiveOk, busyOk, frameOk, timeoutOk, HeaderFits, inBoot,
      pastPreflight, hp, exists_session_iff, exists_session_and_iff] <;> tauto

theorem inv_iff (s : State) : Inv s ↔ Lasting s ∧ PhaseFits s.phase s := by
  rw [phaseFits_iff]
  constructor
  · intro h
    exact ⟨⟨h.config, h.baud, h.cursor, h.memory, h.working, h.wire⟩, h.session, h.receive, h.busy, h.frame,
      h.timeout⟩
  · rintro ⟨⟨hconfig, hbaud, hcursor, hmemory, hworking, hwire⟩, hsession, hreceive, hbusy, hframe, htimeout⟩
    exact ⟨hconfig, hbaud, hcursor, hmemory, hworking, hsession, hreceive, hbusy, hframe, htimeout, hwire⟩

theorem inv_of {s : State} {p : Phase} (hp : s.phase = p) (hl : Lasting s) (hf : PhaseFits p s) : Inv s :=
  (inv_iff s).mpr ⟨hl, hp ▸ hf⟩

theorem phaseFits_of_inv {s : State} {p : Phase} (hp : s.phase = p) (h : Inv s) : PhaseFits p s :=
  hp ▸ ((inv_iff s).mp h).2

theorem lasting_of_inv {s : State} (h : Inv s) : Lasting s := ((inv_iff s).mp h).1

section Lasting

/-! What the named operations make of the lasting part. -/

variable {s : State} (h : Lasting s)
include h

/-- Events and written bytes go on together (R63). -/
theorem lasting_adds (es : List Event) :
    Lasting { s with trace := s.trace ++ es, wire := s.wire ++ txBytes es } := by
  obtain ⟨hconfig, hbaud, hcursor, hmemory, hworking, before, hwire⟩ := h
  exact ⟨hconfig, hbaud, hcursor, hmemory, hworking, before, by simp [hwire]⟩

theorem lasting_emit {e : Event} (he : txBytes [e] = []) : Lasting (emit e s) := by
  simpa [emit, he] using lasting_adds h [e]

theorem lasting_writeLine (bs : Bytes) : Lasting (writeLine bs s) := by
  simpa [writeLine, emit, txBytes] using lasting_adds h [.tx bs]

theorem lasting_rx (r : Bytes) : Lasting (emit (.rx r) s) := lasting_emit h rfl

theorem lasting_flushInput : Lasting (flushInput s) := lasting_emit (e := .drop s.rxq) h rfl

theorem lasting_driveBusy (v : Bool) : Lasting (driveBusy v s) := lasting_emit (e := .busy v) h rfl

theorem lasting_driveBaud {r : Nat} (hr : r ∈ legalRates) : Lasting (driveBaud r s) := by
  obtain ⟨hconfig, -, hcursor, hmemory, hworking, hwire⟩ := h
  exact lasting_emit (e := .baud r) (s := { s with baud := r }) ⟨hconfig, hr, hcursor, hmemory, hworking, hwire⟩ rfl

theorem lasting_working {w : Working} (hw : workingOk w) : Lasting { s with w := w } := by
  obtain ⟨hconfig, hbaud, hcursor, hmemory, -, hwire⟩ := h
  exact ⟨hconfig, hbaud, hcursor, hmemory, hw, hwire⟩

theorem lasting_cursor {c : BitVec 13} (hc : cursorOk c) : Lasting { s with cursor := c } := by
  obtain ⟨hconfig, hbaud, -, hmemory, hworking, hwire⟩ := h
  exact ⟨hconfig, hbaud, hc, hmemory, hworking, hwire⟩

theorem working_of_lasting : workingOk s.w := h.2.2.2.2.1

theorem lasting_setRxbuf {bs : Bytes} (hb : bs.length ≤ 258) : Lasting (setRxbuf bs s) := by
  obtain ⟨hdata, htx, -, hblk, hecho, hrdy⟩ := working_of_lasting h
  exact lasting_working h ⟨hdata, htx, ⟨hb, by simp; omega⟩, hblk, hecho, hrdy⟩

theorem lasting_setTxbuf {bs : Bytes} (hb : bs.length ≤ 258) : Lasting (setTxbuf bs s) := by
  obtain ⟨hdata, -, hrx, hblk, hecho, hrdy⟩ := working_of_lasting h
  exact lasting_working h ⟨hdata, ⟨hb, by simp; omega⟩, hrx, hblk, hecho, hrdy⟩

theorem lasting_setMessage (opcode : Byte) {data : Bytes} (hd : data.length ≤ 254) :
    Lasting (setMessage opcode data s) := by
  obtain ⟨-, htx, hrx, hblk, hecho, hrdy⟩ := working_of_lasting h
  exact lasting_working h ⟨⟨hd, by simp; omega⟩, htx, hrx, hblk, hecho, hrdy⟩

theorem lasting_loseRxbuf : Lasting (loseRxbuf s) := lasting_working h (loseRxbuf_workingOk (working_of_lasting h))

/-- The end of an operation leads to a consistent idle state. -/
theorem inv_endOp (k : Status) (res : Result) (lost : List Slot) (ht : s.timeout = s.cfg.readTimeout) :
    Inv (endOp k res lost s) :=
  have hw := lasting_working h (scramble_foldl_workingOk lost (working_of_lasting h) s.free)
  inv_of (p := .idle) rfl (lasting_emit (e := .ended k) hw rfl) ⟨rfl, ht⟩

theorem inv_raiseError (k : Status) (ht : s.timeout = s.cfg.readTimeout) : Inv (raiseError k s) := inv_endOp h k _ _ ht

theorem inv_finishOp (res : Result) (ht : s.timeout = s.cfg.readTimeout) : Inv (finishOp res s) :=
  inv_endOp h .ok _ _ ht

/-- The block loop's test, with the image latched (R250). -/
theorem inv_nextBlock (hl : Latched s) : Inv (nextBlock s) := by
  unfold nextBlock
  split
  · next hlt => exact inv_of (p := .btBlockSend) rfl h ⟨hl, hlt⟩
  · exact inv_of (p := .btFinalWait) rfl (lasting_flushInput (lasting_driveBaud h (r := 115200) (by decide))) hl

end Lasting

theorem phaseFits_of_headerFits {p : Phase} {s : State} (hp : inReceive p = true) (hne : p ≠ .epRxHdr)
    (hout : Outside s) (hf : HeaderFits p s.w.rxbuf) : PhaseFits p s := by
  cases p <;> first | exact ⟨hout, hf⟩ | exact absurd rfl hne | cases hp

/-- A header byte, or none in time (R203, R211). -/
theorem inv_afterRead_header {s : State} {r : Bytes} (hp : inHeader s.phase = true) (hout : Outside s)
    (hf : HeaderFits s.phase (headerSoFar s)) (h : Lasting s) : Inv (afterRead r s) := by
  cases r with
  | nil =>
    rw [afterRead_header_nil hp]
    exact inv_raiseError (lasting_rx h _) _ hout.2
  | cons b r =>
    rw [afterRead_header_cons hp, afterByte_headerSoFar]
    have hnext := headerFits_afterByte hp hf b
    have hlen := headerFits_length_le hp hf
    have hl : Lasting (setRxbuf (headerSoFar s ++ [b]) (emit (.rx (b :: r)) s)) :=
      lasting_setRxbuf (lasting_rx h _) (by simp; omega)
    exact inv_of rfl hl (phaseFits_of_headerFits (inReceive_afterByte ..) (afterByte_ne_hdr _ _ _) hout hnext)

/-- What an accepted frame gives: the opcode of its header and the data before its last byte (R203). -/
theorem frameVerdict_eq_some {header payload data : Bytes} {opcode : Byte}
    (h : frameVerdict header payload = some (opcode, data)) :
    headerDataLen header ≠ 0 ∧ opcode = headerOpcode header ∧ data = payload.take (headerDataLen header - 1) := by
  unfold frameVerdict at h
  split at h
  · cases h
  · next hlen =>
    split at h
    · cases h
    · cases h
      exact ⟨hlen, rfl, rfl⟩

/-- The payload, or less of it in time (R203, R210, R211). -/
theorem inv_afterRead_payload {s : State} {r : Bytes} (hp : s.phase = .epRxPayload) (hout : Outside s)
    (hf : HeaderFits .epRxPayload s.w.rxbuf) (hr : r.length ≤ headerDataLen s.w.rxbuf) (h : Lasting s) :
    Inv (afterRead r s) := by
  have hrx : Lasting (emit (.rx r) s) := lasting_rx h r
  have hheader : s.w.rxbuf.length ≤ 3 := hf ▸ headerLen_le _
  have hdata := headerDataLen_le s.w.rxbuf
  have hbuf : Lasting (setRxbuf (s.w.rxbuf ++ r) (emit (.rx r) s)) := lasting_setRxbuf hrx (by simp; omega)
  rw [afterRead_epRxPayload hp]
  split
  · exact inv_raiseError hrx _ hout.2
  · cases hv : frameVerdict (emit (.rx r) s).w.rxbuf r with
    | some v =>
      obtain ⟨opcode, data⟩ := v
      obtain ⟨-, -, hd⟩ := frameVerdict_eq_some hv
      have hlen : data.length ≤ 254 := by
        rw [hd, List.length_take, emit_w]
        omega
      rw [receiveVerdict_some hv]
      exact inv_endOp (lasting_loseRxbuf (lasting_setMessage hbuf opcode hlen)) _ _ _ hout.2
    | none =>
      rw [receiveVerdict_none hv]
      exact inv_raiseError hbuf _ hout.2

theorem inv_afterRead {s : State} {r : Bytes} {n : Nat} (hn : pendingRead s = some n) (hr : r.length ≤ n)
    (h : Inv s) : Inv (afterRead r s) := by
  have hl := lasting_of_inv h
  have hrx : Lasting (emit (.rx r) s) := lasting_rx hl r
  cases hp : s.phase <;> simp only [pendingRead, hp, Option.some.injEq, reduceCtorEq] at hn <;>
    have hf := phaseFits_of_inv hp h
  case tRead =>
    rw [afterRead_tRead hp]
    exact inv_finishOp hrx _ hf.2
  case tQuiet =>
    have hdrop : Lasting (emit (.drop r) s) := lasting_emit hl rfl
    rw [afterRead_tQuiet hp]
    split
    · exact inv_finishOp (s := { emit (.drop r) s with timeout := s.savedTimeout }) hdrop _ hf.2
    · exact inv_of (p := .tQuiet) hp hdrop hf
  case sbReadback =>
    obtain ⟨hout, hframe, -⟩ := hf
    have hbuf : Lasting (setRxbuf r (emit (.rx r) s)) := lasting_setRxbuf hrx (by omega)
    rw [afterRead_sbReadback hp]
    split
    · exact inv_of (p := .sbWaitRelease) rfl (lasting_driveBusy hbuf false) ⟨hout, hframe, rfl⟩
    · exact inv_raiseError hbuf _ hout.2
  case epEnterAck =>
    rw [afterRead_epEnterAck hp]
    split
    · exact inv_finishOp (s := { emit (.rx r) s with sbepMode := true }) hrx _ hf.1.2
    · exact inv_raiseError (s := { driveBusy false (emit (.rx r) s) with sbepMode := false })
        (lasting_driveBusy hrx false) _ hf.1.2
  case epReadback =>
    obtain ⟨-, ⟨htx, htxlen⟩, -⟩ := h.working
    have hbuf : Lasting (setRxbuf r (emit (.rx r) s)) := lasting_setRxbuf hrx (by omega)
    rw [afterRead_epReadback hp]
    split
    · exact inv_of (p := .epAck) rfl hbuf hf
    · exact inv_raiseError hbuf _ hf.2
  case epAck =>
    rw [afterRead_epAck hp]
    split
    · exact inv_finishOp hrx _ hf.2
    · exact inv_raiseError hrx _ hf.2
  case epRxHdr | epRxExtop | epRxPlaceholder | epRxExtlen =>
    have hout : Outside s := by first | exact hf | exact hf.1
    exact inv_afterRead_header (by rw [hp]; rfl) hout ((receiveOk_iff s).mp h.receive) hl
  case epRxPayload => exact inv_afterRead_payload hp hf.1 hf.2 (hn ▸ hr) hl
  case btNegotiate =>
    have hresp : Lasting { s with w := { s.w with resp := r } } := lasting_working hl h.working
    have hread := lasting_rx hresp r
    rw [afterRead_btNegotiate hp]
    split
    · exact inv_nextBlock (lasting_cursor hread ⟨0, by decide, by decide⟩) hf
    · exact inv_of (p := .btNegotiate) hp hread hf

/-- What the queue, the peer's line and the turns to come are makes no difference. -/
theorem inv_congr {s : State} (q : Bytes) (v : Bool) (x : List Turn) (h : Inv s) :
    Inv { s with rxq := q, busyIn := v, sched := x } :=
  have hl : Lasting s := lasting_of_inv h
  have hf : PhaseFits s.phase s := phaseFits_of_inv rfl h
  inv_of (p := s.phase) rfl hl hf

theorem inv_completeRead {s : State} {n : Nat} (hn : pendingRead s = some n) (h : Inv s) : Inv (completeRead n s) :=
  inv_afterRead (s := { s with rxq := s.rxq.drop n }) hn (List.length_take_le ..) (inv_congr _ _ _ h)

/-- The message is encoded within the capacity of `TXBUF` (R25, R208). -/
theorem inv_sendMessage {s : State} (hp : s.phase = .epXmit) (h : Inv s) : Inv (sendMessage s) := by
  have hout : Outside s := phaseFits_of_inv hp h
  obtain ⟨⟨hdata, -⟩, -⟩ := h.working
  have hacc := lasting_working (lasting_of_inv h)
    (w := { s.w with acc := byteSum (sbepHeader s.w.opcode (s.w.data.length + 1) ++ s.w.data) }) h.working
  exact inv_of (p := .epReadback) rfl
    (lasting_writeLine (lasting_flushInput (lasting_setTxbuf hacc (sbepFrame_length_le _ _ hdata))) _) hout

/-- Preflight latches an image that fits (R232). -/
theorem inv_preflight {s : State} (hp : s.phase = .btPreflight) (h : Inv s) : Inv (preflight s) := by
  obtain ⟨-, ht⟩ := phaseFits_of_inv hp h
  have hl := lasting_of_inv h
  unfold preflight
  split
  · exact inv_raiseError hl _ ht
  · next hok =>
    rw [not_or, Bool.not_eq_false, not_lt] at hok
    exact inv_of (p := .btReadyWait) rfl
      (lasting_flushInput (lasting_driveBaud (s := latchSession s) hl (r := 460) (by decide)))
      ⟨rfl, hok.1, hok.2, ht⟩

theorem sessionBaud_of_latched {s : State} (h : Latched s) : sessionBaud s = s.cfg.bootBaud := by
  simp [sessionBaud, h.1]

theorem sessionImage_of_latched {s : State} (h : Latched s) :
    sessionImage s = memRead s.img s.imgLen.toNat 0 s.imgLen.toNat := by simp [sessionImage, h.1]

/-- The rate of the bootloader is a legal one (R9, R36). -/
theorem bootBaud_legal {c : Config} (h : configOk c) : c.bootBaud ∈ legalRates := by
  obtain ⟨-, -, -, -, hbaud | hbaud, -⟩ := h <;> rw [hbaud] <;> decide

/-- Eight bytes that are a ready pattern lead to negotiation, others are logged (R240 to R244). -/
theorem inv_readyTest {s : State} (hp : s.phase = .btReadyWait) (hlen : 8 ≤ s.rxq.length) (h : Inv s) :
    Inv (readyTest s) := by
  have hf : Latched s := phaseFits_of_inv hp h
  obtain ⟨hdata, htx, hrx, hblk, hecho, -⟩ := h.working
  have hrdy : (s.rxq.take 8).length = 8 := by simp [hlen]
  have hread : Lasting (emit (.rx (s.rxq.take 8))
      { s with rxq := s.rxq.drop 8, w := { s.w with rdy := s.rxq.take 8 } }) :=
    lasting_rx (lasting_working (lasting_of_inv h) (w := { s.w with rdy := s.rxq.take 8 })
      ⟨hdata, htx, hrx, hblk, hecho, hrdy⟩) _
  simp only [readyTest]
  split
  · have hbaud : sessionBaud s ∈ legalRates := sessionBaud_of_latched hf ▸ bootBaud_legal h.config
    exact inv_of (p := .btNegotiate) rfl (lasting_writeLine (lasting_flushInput (lasting_driveBaud hread hbaud)) _) hf
  · exact inv_of (p := .btReadyWait) hp (lasting_emit hread rfl) hf

/-- The cursor of a block that starts inside the image stays on its grid when it moves on (R29, R252). -/
theorem cursorOk_next {c : BitVec 13} (h : cursorOk c) (hlt : c.toNat < 4096) : cursorOk (c + 8#13) := by
  obtain ⟨k, -, hk⟩ := h
  refine ⟨k + 1, by omega, ?_⟩
  simp only [BitVec.toNat_add, BitVec.toNat_ofNat]
  omega

/-- The echo verifies the block, or ends `BOOT` (R252, R253). -/
theorem inv_echoTest {s : State} (hp : s.phase = .btBlockEcho) (hlen : 16 ≤ s.rxq.length) (h : Inv s) :
    Inv (echoTest s) := by
  obtain ⟨hf, hcur⟩ := phaseFits_of_inv hp h
  obtain ⟨hdata, htx, hrx, hblk, -, hrdy⟩ := h.working
  have hecho : (s.rxq.take 16).length = 16 := by simp [hlen]
  have hread : Lasting (emit (.rx (s.rxq.take 16))
      { s with rxq := s.rxq.drop 16, w := { s.w with echo := s.rxq.take 16 } }) :=
    lasting_rx (lasting_working (lasting_of_inv h) (w := { s.w with echo := s.rxq.take 16 })
      ⟨hdata, htx, hrx, hblk, hecho, hrdy⟩) _
  obtain ⟨hsession, hvalid, hmax, ht⟩ := hf
  simp only [echoTest]
  split
  · have hlt : s.cursor.toNat < 4096 := by
      rw [sessionImage_of_latched ⟨hsession, hvalid, hmax, ht⟩, memRead_length] at hcur
      omega
    exact inv_nextBlock (lasting_cursor hread (cursorOk_next h.cursor hlt)) ⟨hsession, hvalid, hmax, ht⟩
  · exact inv_raiseError hread _ ht

/-- The final response ends `BOOT` (R256). -/
theorem inv_finalTest {s : State} (hp : s.phase = .btFinalWait) (h : Inv s) : Inv (finalTest s) := by
  obtain ⟨-, -, -, ht⟩ : Latched s := phaseFits_of_inv hp h
  have hread : Lasting (emit (.rx s.rxq) { s with rxq := [], w := { s.w with resp := s.rxq } }) :=
    lasting_rx (lasting_working (lasting_of_inv h) h.working) _
  simp only [finalTest]
  split
  · exact inv_finishOp hread _ ht
  · exact inv_raiseError hread _ ht

theorem inv_edgeTurn {s : State} (h : Inv s) : Inv (edgeTurn s) := by
  have hl := lasting_of_inv h
  cases hp : s.phase <;> have hf := phaseFits_of_inv hp h
  case sbWaitFree =>
    rw [edgeTurn_sbWaitFree hp]
    split
    · exact h
    · exact inv_of (p := .sbXmit) rfl hl hf
  case sbXmit =>
    rw [edgeTurn_sbXmit hp]
    exact inv_of (p := .sbReadback) rfl (lasting_writeLine (lasting_flushInput (lasting_driveBusy hl true)) _)
      ⟨hf.1, hf.2, rfl⟩
  case sbWaitRelease =>
    rw [edgeTurn_sbWaitRelease hp]
    split
    · exact h
    · exact inv_finishOp hl _ hf.1.2
  case epLeaveWait =>
    rw [edgeTurn_epLeaveWait hp]
    split
    · exact h
    · exact inv_finishOp (s := { s with sbepMode := false }) hl _ hf.1.2
  case epXmit =>
    rw [edgeTurn_epXmit hp]
    exact inv_sendMessage hp h
  case btPreflight =>
    rw [edgeTurn_btPreflight hp]
    exact inv_preflight hp h
  case btReadyWait =>
    rw [edgeTurn_btReadyWait hp]
    split
    · next hlen => exact inv_readyTest hp hlen h
    · exact h
  case btBlockSend =>
    obtain ⟨hdata, htx, hrx, -, hecho, hrdy⟩ := h.working
    have hblk := lasting_working hl (w := { s.w with blk := blockAt (sessionImage s) s.cursor.toNat })
      ⟨hdata, htx, hrx, blockAt_length .., hecho, hrdy⟩
    rw [edgeTurn_btBlockSend hp]
    exact inv_of (p := .btBlockEcho) rfl (lasting_writeLine hblk _) hf
  case btBlockEcho =>
    rw [edgeTurn_btBlockEcho hp]
    split
    · next hlen => exact inv_echoTest hp hlen h
    · exact h
  case btFinalWait =>
    rw [edgeTurn_btFinalWait hp]
    split
    · exact inv_finalTest hp h
    · exact h
  case idle => rwa [edgeTurn_idle hp]
  all_goals rwa [edgeTurn_reads (by unfold pendingRead; rw [hp])]

/-- In a running operation other than `WAIT_FOR_QUIET`, `TIMEOUT` is `READ_TIMEOUT`; there the copy is (R37). -/
theorem inv_deadlineTurn {s : State} (h : Inv s) : Inv (deadlineTurn s) := by
  have hl := lasting_of_inv h
  obtain ⟨-, -, -, he⟩ | he := deadlineTurn_cases s <;> rw [he]
  · by_cases hq : s.phase = .tQuiet
    · rw [beforeCancel_tQuiet hq]
      exact inv_raiseError (s := { s with timeout := s.savedTimeout }) hl _ (h.timeout.2 hq)
    · have ht := h.timeout.1 hq
      by_cases ha : s.phase = .epEnterAck
      · rw [beforeCancel_epEnterAck ha]
        exact inv_raiseError (s := { driveBusy false s with sbepMode := false }) (lasting_driveBusy hl false) _ ht
      · rw [beforeCancel_other ha hq]
        exact inv_raiseError hl _ ht
  · exact h

theorem inv_opened {i : Instr} {s : State} (hidle : s.phase = .idle) (hwf : i.wellFormed = true) (h : Inv s) :
    Inv (opened i s) := by
  have hl := lasting_of_inv h
  have hout : Outside s := phaseFits_of_inv hidle h
  cases i
  case read n => exact inv_of (p := .tRead) rfl (lasting_working hl h.working) hout
  case waitForQuiet d => exact inv_of (p := .tQuiet) rfl hl hout
  case sb9600Send a sub v o => exact inv_of (p := .sbWaitFree) rfl (lasting_working hl h.working) ⟨hout, rfl⟩
  case sbepEnter => exact inv_of (p := .epEnterAck) rfl (lasting_driveBusy hl true) ⟨hout, rfl⟩
  case sbepLeave => exact inv_of (p := .epLeaveWait) rfl (lasting_driveBusy hl false) ⟨hout, rfl⟩
  case sbepSend opcode data =>
    have hlen : data.length ≤ 254 := of_decide_eq_true hwf
    exact inv_of (p := .epXmit) rfl (lasting_setMessage hl opcode hlen) hout
  case sbepReceive => exact inv_of (p := .epRxHdr) rfl (lasting_setRxbuf hl (bs := []) (by decide)) hout
  case boot => exact inv_of (p := .btPreflight) rfl hl ⟨rfl, hout.2⟩
  all_goals exact h

theorem inv_immediate {i : Instr} {s : State} (hidle : s.phase = .idle) (hwf : i.wellFormed = true) (h : Inv s) :
    Inv (immediate i s) := by
  have hl := lasting_of_inv h
  have ht : s.timeout = s.cfg.readTimeout := (phaseFits_of_inv hidle h).2
  cases i
  case write bs => exact inv_endOp (lasting_writeLine hl bs) _ _ _ ht
  case flushIn => exact inv_endOp (lasting_flushInput hl) _ _ _ ht
  case setBusy v => exact inv_endOp (lasting_driveBusy hl _) _ _ _ ht
  case setBaud r => exact inv_endOp (lasting_driveBaud hl (List.contains_iff_mem.mp hwf)) _ _ _ ht
  case sb9600Crc | sbepChecksum | avail | flushOut | isBusy | sb9600Check => exact inv_endOp hl _ _ _ ht
  all_goals exact h

/-- A loaded image is canonical, and no session speaks of the old one (R40). -/
theorem inv_loadImage {image : Bytes} {s : State} (hidle : s.phase = .idle) (h : Inv s) : Inv (loadImage image s) := by
  have himg := loadImage_img_wf image s h.memory
  obtain ⟨hconfig, hbaud, hcursor, -, hworking, hwire⟩ := lasting_of_inv h
  have hout : Outside s := phaseFits_of_inv hidle h
  unfold loadImage at himg ⊢
  split
  · exact inv_of (p := .idle) hidle ⟨hconfig, hbaud, hcursor, memOfBytes_wf 0 image, hworking, hwire⟩ hout
  · exact h

theorem inv_unloadImage {s : State} (hidle : s.phase = .idle) (h : Inv s) : Inv (unloadImage s) :=
  have hl : Lasting s := lasting_of_inv h
  have hout : Outside s := phaseFits_of_inv hidle h
  inv_of (p := .idle) hidle hl hout

/-- An applied reset leaves a consistent state, its undefined values within their ranges (R46, R311). -/
theorem inv_applyReset {s : State} (h : Inv s) : Inv (applyReset s) := by
  have hrate : 9600 ∈ legalRates := by decide
  refine inv_of (p := .idle) rfl ⟨h.config, hrate, ?_, applyReset_img_wf s, scramble_foldl_workingOk _ h.working _,
    s.wire, (List.append_nil _).symm⟩ ⟨rfl, rfl⟩
  refine ⟨Config.freeLen s.free .cursor % 497, by omega, ?_⟩
  simp only [applyReset, BitVec.toNat_ofNat]
  omega

theorem inv_kept : KeptBySteps Inv where
  sched s x h := inv_congr s.rxq s.busyIn x h
  rx s _ h := inv_congr _ s.busyIn s.sched h
  busy s v h := inv_congr s.rxq v s.sched h
  read _ _ hn h := inv_completeRead hn h
  edge _ h := inv_edgeTurn h
  deadline _ h := inv_deadlineTurn h
  opened _ _ hidle hwf _ h := inv_opened hidle hwf h
  immediate _ _ hidle hwf _ _ h := inv_immediate hidle hwf h
  load _ _ hidle h := inv_loadImage hidle h
  unload _ hidle h := inv_unloadImage hidle h
  reset _ h := inv_applyReset h

/-- Settles O50. -/
theorem everyStepKeepsTheStateConsistent : Obligations.EveryStepKeepsTheStateConsistent :=
  fun _ _ h he => inv_kept.step h he

/-- Every member of `READY_SET` at reset is eight bytes other than the known non-member (R10). -/
theorem readyPattern_legal {p : Bytes} (h : p ∈ initialReadySet) : readyPatternLegal p = true := by
  obtain rfl | rfl | h := by simpa only [initialReadySet, List.mem_cons] using h
  · decide
  · decide
  · exact (List.mem_filter.mp h).2

/-- The configuration at reset is one the spec admits, whatever the open parameters are (R8 to R13). -/
theorem configOk_initialConfig : configOk initialConfig := by
  have hvectors := crcKnownVectors
  refine ⟨crcLawsOfTheTable.2.1.1, hvectors, ⟨?_, ?_, ?_⟩, ?_, ?_, ?_⟩
  · exact List.mem_cons_self
  · exact List.mem_cons_of_mem _ List.mem_cons_self
  · exact fun h => absurd (readyPattern_legal h) (by decide)
  · intro p hp
    have hlegal := readyPattern_legal hp
    simp only [readyPatternLegal, Bool.and_eq_true, beq_iff_eq] at hlegal
    exact hlegal.1
  · unfold initialConfig
    dsimp only
    split
    · exact .inr rfl
    · exact .inl rfl
  · exact Nat.le_add_left ..

/-- Settles O51. -/
theorem resetStateIsConsistent : Obligations.ResetStateIsConsistent := by
  refine inv_of (p := .idle) rfl ⟨configOk_initialConfig, by decide, ⟨0, by decide, by decide⟩, rfl, ?_, [], rfl⟩
    ⟨rfl, rfl⟩
  unfold workingOk
  decide

end Sys2Proof.Proofs

/-! PROOFS. The commands that cannot hold, the end of an operation by what it loses, the host's turns and the reset,
each with its exact next state (41_transport.md R152 to R165, 60_exceptions.md R276, R284, 70_reset_and_hazards.md
R311). -/

namespace Sys2Proof.Proofs

open Sys2Proof.Machine Sys2Proof.Safety

/-- The end of an operation of the idle engine, which leaves `PHASE` as it is. -/
theorem endOp_at_idle {s : State} (h : s.phase = .idle) (k : Status) (res : Result) (lost : List Slot) :
    endOp k res lost s = { s with
      status := k, session := none, result := res, trace := s.trace ++ [.ended k]
      w := lost.foldl (scramble s.free) s.w, free := s.free + 1 } := by rw [endOp_eq, ← h]

/-- Settles O18: the result is computed, and the end of the operation loses `ACC`, or `FRAME` and `ACC`. -/
theorem pureCommandsComplete : Obligations.PureCommandsComplete := by
  intro s hidle
  refine ⟨fun bs => ?crc, fun bs => ?checksum, fun f0 f1 f2 f3 f4 => ?check⟩
  case crc =>
    rw [exec_immediate rfl rfl hidle rfl, immediate, endOp_at_idle hidle]
    exact ⟨_, _, rfl⟩
  case checksum =>
    rw [exec_immediate rfl rfl hidle rfl, immediate, endOp_at_idle hidle]
    exact ⟨_, _, rfl⟩
  case check =>
    rw [exec_immediate rfl rfl hidle rfl, immediate, endOp_at_idle hidle]
    exact ⟨_, _, _, rfl⟩

/-- An operation that adds one event and ends, with nothing in the working registers. -/
theorem endOp_emit {s : State} (h : s.phase = .idle) (e : Event) (k : Status) (res : Result) :
    endOp k res [] (emit e s) = { s with
      status := k, session := none, result := res, trace := s.trace ++ [e, .ended k], free := s.free + 1 } := by
  rw [endOp_at_idle (s := emit e s) h, emit_trace, List.append_assoc]
  rfl

/-- Settles O19: the event of `WRITE` and `FLUSH_IN`, then the end; the others only end. -/
theorem transportCommandsComplete : Obligations.TransportCommandsComplete := by
  intro s hidle
  refine ⟨fun bs => ?write, ?avail, ?flushIn, ?flushOut, ?isBusy⟩
  case write =>
    rw [exec_immediate rfl rfl hidle rfl, immediate, writeLine, endOp_emit (s := { s with wire := s.wire ++ bs }) hidle]
    exact ⟨_, rfl⟩
  case avail =>
    rw [exec_immediate rfl rfl hidle rfl, immediate, endOp_at_idle hidle]
    exact ⟨_, rfl⟩
  case flushIn =>
    rw [exec_immediate rfl rfl hidle rfl, immediate, flushInput, endOp_emit (s := { s with rxq := [] }) hidle]
    exact ⟨_, rfl⟩
  case flushOut =>
    rw [exec_immediate rfl rfl hidle rfl, immediate, endOp_at_idle hidle]
    exact ⟨_, rfl⟩
  case isBusy =>
    rw [exec_immediate rfl rfl hidle rfl, immediate, endOp_at_idle hidle]
    exact ⟨_, rfl⟩

/-- Settles O20: the two operands of `SET_BUSY` and the five of `SET_BAUD` are well-formed; the event, then the end. -/
theorem controlLineCommandsComplete : Obligations.ControlLineCommandsComplete := by
  intro s hidle
  refine ⟨fun v hv => ?busy, fun r hr => ?baud⟩
  case busy =>
    have hwf : (Instr.setBusy v).wellFormed = true := by obtain rfl | rfl := hv <;> rfl
    rw [exec_immediate rfl hwf hidle rfl, immediate, driveBusy,
      endOp_emit (s := { s with busyOut := v == 0x01#8 }) hidle]
    exact ⟨_, rfl⟩
  case baud =>
    have hwf : (Instr.setBaud r).wellFormed = true := List.contains_iff_mem.mpr hr
    rw [exec_immediate rfl hwf hidle rfl, immediate, driveBaud, endOp_emit (s := { s with baud := r }) hidle]
    exact ⟨_, rfl⟩

/-- Settles O40: the error exit as it is defined. -/
theorem errorExitUndoesNothing : Obligations.ErrorExitUndoesNothing := fun _ _ => ⟨_, _, rfl⟩

/-- Settles O56: the reset state as it is defined. -/
theorem resetLeavesTheValuesOfTheTable : Obligations.ResetLeavesTheValuesOfTheTable :=
  ⟨rfl, rfl, rfl, rfl, rfl, rfl, rfl, rfl, rfl⟩

/-- Settles O57: the turn `reset` applies the reset in whatever phase. -/
theorem resetAbandonsTheOperation : Obligations.ResetAbandonsTheOperation :=
  fun _ _ hs => ⟨_, step_reset hs, rfl, rfl, rfl, rfl, rfl, rfl, rfl, rfl, rfl, rfl, rfl, rfl, rfl⟩

/-- A clipped read of the contents that hold an image is a slice of the image (R62). -/
theorem memRead_memOfBytes (image : Bytes) (a n : Nat) :
    memRead (memOfBytes 0 image) image.length a n = (image.drop a).take n := by
  refine List.ext_getElem (by simp; omega) fun i hi _ => ?_
  rw [memRead_length] at hi
  have hbyte := memByte_memOfBytes 0 (a + i) image
  rw [Nat.zero_add] at hbyte
  simp only [memRead, List.getElem_map, List.getElem_range, hbyte, List.getElem_take, List.getElem_drop]
  exact List.getD_eq_getElem _ _ (by omega)

/-- Settles O58: the image memory holds the image's bytes in canonical form. -/
theorem loadedImageIsWhatMemReadReturns : Obligations.LoadedImageIsWhatMemReadReturns := by
  intro s image ts hs hlen
  refine ⟨fun hidle => ⟨memOfBytes 0 image, ?_, memOfBytes_wf 0 image, memRead_memOfBytes image⟩, fun hbusy => ?_⟩
  · rw [step_load hs, if_pos hidle, loadImage, if_pos hlen]
  · rw [step_load hs, if_neg hbusy]

section Ends

/-! The end of an operation, by the working registers it loses: the rest of the state is exact. -/

variable (k : Status) (res : Result) (s : State)

theorem endOp_nothing : ∃ n, endOp k res [] s = { s with
    phase := .idle, status := k, result := res, session := none, trace := s.trace ++ [.ended k], free := n } := ⟨_, rfl⟩

theorem endOp_sb9600 : ∃ f c rb rl n, endOp k res [.frame, .acc, .rxbuf] s = { s with
    phase := .idle, status := k, result := res, session := none
    w := { s.w with frame := f, acc := c, rxbuf := rb, rxlen := rl }
    trace := s.trace ++ [.ended k], free := n } := ⟨_, _, _, _, _, rfl⟩

theorem endOp_sbepSend : ∃ o d dl c tb tl rb rl n, endOp k res [.opcode, .data, .acc, .txbuf, .rxbuf] s = { s with
    phase := .idle, status := k, result := res, session := none
    w := { s.w with opcode := o, data := d, dlen := dl, acc := c, txbuf := tb, txlen := tl, rxbuf := rb, rxlen := rl }
    trace := s.trace ++ [.ended k], free := n } := ⟨_, _, _, _, _, _, _, _, _, rfl⟩

theorem endOp_sbepReceive : ∃ o d dl c rb rl n, endOp k res [.opcode, .data, .acc, .rxbuf] s = { s with
    phase := .idle, status := k, result := res, session := none
    w := { s.w with opcode := o, data := d, dlen := dl, acc := c, rxbuf := rb, rxlen := rl }
    trace := s.trace ++ [.ended k], free := n } := ⟨_, _, _, _, _, _, _, rfl⟩

theorem endOp_boot : ∃ b e r p n, endOp k res [.blk, .echo, .rdy, .resp] s = { s with
    phase := .idle, status := k, result := res, session := none
    w := { s.w with blk := b, echo := e, rdy := r, resp := p }
    trace := s.trace ++ [.ended k], free := n } := ⟨_, _, _, _, _, rfl⟩

variable {s} {lost : List Slot} (h : workingOf s.phase = lost)
include h

theorem raiseError_eq : raiseError k s = endOp k .none lost s := by rw [raiseError, h]

theorem finishOp_eq : finishOp res s = endOp .ok res lost s := by rw [finishOp, h]

end Ends

/-- An expiry without a deadline, at rest, or outside a hold, is nothing (R284). -/
theorem deadlineTurn_nothing {s : State} (h : s.cfg.deadline = none ∨ s.phase = .idle ∨ isHold s.phase = false) :
    deadlineTurn s = s := by
  refine if_neg ?_
  rintro ⟨hd, hp, hh⟩
  obtain h | h | h := h <;> simp_all

theorem deadlineTurn_hold {s : State} (hd : s.cfg.deadline ≠ none) (hp : s.phase ≠ .idle) (hh : isHold s.phase = true) :
    deadlineTurn s = raiseError .cancelled (beforeCancel s) :=
  if_pos ⟨Option.isSome_iff_ne_none.mpr hd, hp, hh⟩

section Cancelled

/-! A cancelled hold (R284): what the operation's own rule does first, then the error exit. -/

variable {s : State}

theorem deadlineTurn_plain (hd : s.cfg.deadline ≠ none) (hp : s.phase ≠ .idle) (hh : isHold s.phase = true)
    (ha : s.phase ≠ .epEnterAck) (hq : s.phase ≠ .tQuiet) : ∃ w n, deadlineTurn s = { s with
      phase := .idle, status := .cancelled, result := .none, session := none, w := w
      trace := s.trace ++ [.ended .cancelled], free := n } := by
  rw [deadlineTurn_hold hd hp hh, beforeCancel_other ha hq]
  exact ⟨_, _, rfl⟩

theorem deadlineTurn_epEnterAck (hd : s.cfg.deadline ≠ none) (hp : s.phase = .epEnterAck) :
    ∃ n, deadlineTurn s = { s with
      phase := .idle, status := .cancelled, result := .none, session := none, busyOut := false, sbepMode := false
      trace := s.trace ++ [.busy false, .ended .cancelled], free := n } := by
  rw [deadlineTurn_hold hd (by simp [hp]) (by simp [hp, isHold]), beforeCancel_epEnterAck hp]
  exact ⟨s.free + 1, by simp [raiseError, endOp_eq, driveBusy, emit, hp, workingOf]⟩

theorem deadlineTurn_tQuiet (hd : s.cfg.deadline ≠ none) (hp : s.phase = .tQuiet) : ∃ n, deadlineTurn s = { s with
      phase := .idle, status := .cancelled, result := .none, session := none, timeout := s.savedTimeout
      trace := s.trace ++ [.ended .cancelled], free := n } := by
  rw [deadlineTurn_hold hd (by simp [hp]) (by simp [hp, isHold]), beforeCancel_tQuiet hp]
  exact ⟨s.free + 1, by simp [raiseError, endOp_eq, hp, workingOf]⟩

end Cancelled

/-- Settles O41. -/
theorem deadlineCancelsAHold : Obligations.DeadlineCancelsAHold := by
  intro s ts hs
  rw [step_deadline hs]
  refine ⟨fun h => ?nothing, fun hd hp hh ha hq => ?hold, fun hd hp => ?enter, fun hd hp => ?quiet⟩
  case nothing => rw [deadlineTurn_nothing (s := { s with sched := ts }) h]
  case hold =>
    obtain ⟨w, n, he⟩ := deadlineTurn_plain (s := { s with sched := ts }) hd hp hh ha hq
    exact ⟨w, n, by rw [he]⟩
  case enter =>
    obtain ⟨n, he⟩ := deadlineTurn_epEnterAck (s := { s with sched := ts }) hd hp
    exact ⟨n, by rw [he]⟩
  case quiet =>
    obtain ⟨n, he⟩ := deadlineTurn_tQuiet (s := { s with sched := ts }) hd hp
    exact ⟨n, by rw [he]⟩

end Sys2Proof.Proofs

/-! PROOFS. Waiting for bytes and going on with them: what a burst on the line, a run of arrivals and a timeout do in a
phase that waits (20_memory.md R65 to R67), and the wire formats where they are expected (30_encoding.md R94 to
R106). -/

namespace Sys2Proof.Proofs

open Sys2Proof.Machine Sys2Proof.Safety

/-- With how many queued bytes the engine goes on, in a phase that waits for bytes: the count of a read (R153) or the
window of a poll (R240, R252, R256). -/
def waitsFor (s : State) : Option Nat :=
  match s.phase with
  | .btReadyWait => some 8
  | .btBlockEcho => some 16
  | .btFinalWait => some 1
  | _ => pendingRead s

section Waiting

variable {s : State} {n : Nat}

/-- Short of bytes, the engine holds. -/
theorem engineTurn_waits (h : waitsFor s = some n) (hn : s.rxq.length < n) : engineTurn s = s := by
  obtain ⟨m, hm, hle, -⟩ | ⟨m, -, -, he⟩ | ⟨hnone, he⟩ := engineTurn_cases s
  · have : waitsFor s = pendingRead s := by
      unfold waitsFor
      split <;> simp_all [pendingRead]
    rw [this, hm] at h
    cases h
    omega
  · exact he
  · rw [he]
    unfold waitsFor at h
    split at h
    · next hp => cases h; rw [edgeTurn_btReadyWait hp, if_neg (by omega)]
    · next hp => cases h; rw [edgeTurn_btBlockEcho hp, if_neg (by omega)]
    · next hp => cases h; rw [edgeTurn_btFinalWait hp, if_neg (by omega)]
    · rw [hnone] at h
      cases h

/-- A burst that leaves the engine short of bytes is queued. -/
theorem deliver_below {bs : Bytes} (h : waitsFor s = some n) (hn : s.rxq.length + bs.length < n) :
    deliver bs s = { s with rxq := s.rxq ++ bs } := by
  induction bs generalizing s with
  | nil => simp [deliver]
  | cons b bs ih =>
    rw [List.length_cons] at hn
    have hhold : engineTurn (envTurn (.rx b) s) = envTurn (.rx b) s :=
      engineTurn_waits (s := { s with rxq := s.rxq ++ [b] }) h (by simp; omega)
    rw [deliver, hhold, ih (s := envTurn (.rx b) s) h (by simp [envTurn]; omega)]
    simp [envTurn]

/-- A burst whose last byte is the one waited for: the engine goes on with it. -/
theorem deliver_reaches {bs : Bytes} (h : waitsFor s = some n) (hn : s.rxq.length + bs.length = n) (hne : bs ≠ []) :
    deliver bs s = engineTurn { s with rxq := s.rxq ++ bs } := by
  obtain ⟨front, last, rfl⟩ : ∃ front last, bs = front ++ [last] :=
    ⟨_, _, (List.dropLast_append_getLast hne).symm⟩
  rw [List.length_append, List.length_singleton] at hn
  rw [deliver_append, deliver_below h (by omega)]
  simp [deliver, envTurn]

theorem waitsFor_of_pendingRead (h : pendingRead s = some n) : waitsFor s = some n := by
  unfold waitsFor
  split <;> simp_all [pendingRead]

/-- A burst that is exactly what the read asks for, with nothing queued before it. -/
theorem deliver_read {bs : Bytes} (h : pendingRead s = some n) (hq : s.rxq = []) (hlen : bs.length = n)
    (hne : bs ≠ []) : deliver bs s = afterRead bs s := by
  rw [deliver_reaches (waitsFor_of_pendingRead h) (by simp [hq, hlen]) hne,
    engineTurn_read (s := { s with rxq := s.rxq ++ bs }) h (by simp [hlen]), completeRead]
  simp [hq, ← hlen]
  rw [← hq]

/-- A read with its bytes queued takes them (R153). -/
theorem engineTurn_takes {r rest : Bytes} (h : pendingRead s = some n) (hq : s.rxq = r ++ rest) (hr : r.length = n) :
    engineTurn s = afterRead r { s with rxq := rest } := by
  rw [engineTurn_read h (by simp [hq, hr]), completeRead, hq, List.take_left' hr, List.drop_left' hr]

/-- A timeout ends a read that is short of bytes with all there is (R66). -/
theorem timeoutTurn_takes (h : pendingRead s = some n) (hn : s.rxq.length < n) :
    timeoutTurn s = afterRead s.rxq { s with rxq := [] } := by
  rw [timeoutTurn_read h hn, completeRead, List.take_of_length_le hn.le, List.drop_of_length_le hn.le]

/-- The idle engine leaves a burst in the queue. -/
theorem deliver_idle (h : s.phase = .idle) (bs : Bytes) : deliver bs s = { s with rxq := s.rxq ++ bs } := by
  induction bs generalizing s with
  | nil => simp [deliver]
  | cons b bs ih =>
    rw [deliver, engineTurn_idle (s := envTurn (.rx b) s) h, ih (s := envTurn (.rx b) s) h]
    simp [envTurn]

end Waiting

/-- Settles O42. -/
theorem idleEngineOnlyQueuesTheLine : Obligations.IdleEngineOnlyQueuesTheLine := by
  intro i f s hport hidle
  rw [exec_wire hport, deliver_idle hidle]

/-- Settles O43: the one byte that is awaited completes the read. -/
theorem ackCompletesTheWaitingOperation : Obligations.AckCompletesTheWaitingOperation := by
  intro s hq
  refine ⟨fun hp => ?enter, fun hp => ?send⟩
  case enter =>
    rw [exec_wire (f := .ack) rfl, encode, deliver_read (n := 1) (by simp [pendingRead, hp]) hq rfl (by simp),
      afterRead_epEnterAck hp, if_pos rfl, finishOp_eq (lost := []) _ (by simp [hp, workingOf])]
    obtain ⟨n, he⟩ := endOp_nothing .ok .none { emit (.rx [ackByte]) s with sbepMode := true }
    exact ⟨n, by rw [he]; simp [emit, ackByte]⟩
  case send =>
    rw [exec_wire (f := .ack) rfl, encode, deliver_read (n := 1) (by simp [pendingRead, hp]) hq rfl (by simp),
      afterRead_epAck hp, if_pos rfl,
      finishOp_eq (lost := [.opcode, .data, .acc, .txbuf, .rxbuf]) _ (by simp [hp, workingOf])]
    obtain ⟨o, d, dl, c, tb, tl, rb, rl, n, he⟩ := endOp_sbepSend .ok .none (emit (.rx [ackByte]) s)
    exact ⟨o, d, dl, c, tb, tl, rb, rl, n, by rw [he]; simp [emit, ackByte]⟩

/-- Settles O44: the five bytes complete the read, and are compared. -/
theorem frameAtTheReadBack : Obligations.FrameAtTheReadBack := by
  intro s a b v o c hp hq
  have hread : exec (.sb9600Frame a b v o c) s = .next (afterRead [a, b, v, o, c] s) := by
    rw [exec_wire (f := .sb9600) rfl, encode, deliver_read (n := 5) (by simp [pendingRead, hp]) hq rfl (by simp)]
  rw [hread, afterRead_sbReadback hp]
  refine ⟨fun heq => ?same, fun hne => ?other⟩
  case same =>
    rw [if_pos heq]
    simp [driveBusy, emit, setRxbuf]
  case other =>
    rw [if_neg hne, raiseError_eq (lost := [.frame, .acc, .rxbuf]) _ (by simp [hp, workingOf])]
    obtain ⟨f, x, rb, rl, n, he⟩ := endOp_sb9600 .transmitMismatch .none
      (setRxbuf [a, b, v, o, c] (emit (.rx [a, b, v, o, c]) s))
    exact ⟨f, x, rb, rl, n, by rw [he]; simp [emit, setRxbuf]⟩

/-- The phases of the header bytes read one byte each (R203). -/
theorem pendingRead_header {s : State} (hp : inHeader s.phase = true) : pendingRead s = some 1 := by
  unfold pendingRead
  cases h : s.phase <;> simp_all [inHeader]

theorem getD_zero_append {a : Bytes} (h : a ≠ []) (b : Bytes) : (a ++ b).getD 0 0 = a.getD 0 0 := by
  cases a with
  | nil => exact absurd rfl h
  | cons x a => rfl

/-- While bytes of the header are missing, the phase is one that reads a header byte. -/
theorem inHeader_of_missing {p : Phase} {b bs : Bytes} (hp : inReceive p = true) (hf : HeaderFits p b) (hne : bs ≠ [])
    (hlen : (b ++ bs).length = headerLen ((b ++ bs).getD 0 0)) : inHeader p = true := by
  obtain hh | rfl := inReceive_cases hp
  · exact hh
  have hf : b.length = headerLen (b.getD 0 0) := hf
  have hb : b ≠ [] := fun h => by
    have := headerLen_pos (b.getD 0 0)
    rw [← hf, h] at this
    cases this
  have := List.length_pos_of_ne_nil hne
  rw [getD_zero_append hb, ← hf, List.length_append] at hlen
  omega

/-- With the whole header read, the payload is next. -/
theorem eq_payload_of_whole {p : Phase} {b : Bytes} (hp : inReceive p = true) (hf : HeaderFits p b) (hne : b ≠ [])
    (hlen : b.length = headerLen (b.getD 0 0)) : p = .epRxPayload := by
  obtain hh | hpay := inReceive_cases hp
  · obtain h | h := headerFits_length_lt hh hf
    · exact absurd h hne
    · omega
  · exact hpay

/-- The bytes of a header, each read as it arrives (R99, R203). -/
theorem deliver_header {bs : Bytes} {s : State} (hp : inReceive s.phase = true) (hq : s.rxq = [])
    (hf : HeaderFits s.phase (headerSoFar s))
    (hlen : (headerSoFar s ++ bs).length = headerLen ((headerSoFar s ++ bs).getD 0 0)) (hne : bs ≠ []) :
    deliver bs s = { s with
      phase := .epRxPayload
      w := { s.w with rxbuf := headerSoFar s ++ bs, rxlen := BitVec.ofNat 9 (headerSoFar s ++ bs).length }
      trace := s.trace ++ bs.map fun b => .rx [b] } := by
  induction bs generalizing s with
  | nil => exact absurd rfl hne
  | cons b bs ih =>
    have hh := inHeader_of_missing hp hf hne hlen
    have hfits := headerFits_afterByte hh hf b
    rw [← afterByte_headerSoFar] at hfits
    have hin := inReceive_afterByte s.phase s.w.rxbuf b
    have hbyte : deliver (b :: bs) s = deliver bs
        { setRxbuf (headerSoFar s ++ [b]) (emit (.rx [b]) s) with phase := afterByte s.phase s.w.rxbuf b } := by
      rw [← afterRead_header_cons hh]
      have hread := deliver_read (bs := [b]) (pendingRead_header hh) hq rfl (by simp)
      rw [← hread]
      rfl
    rw [hbyte]
    by_cases hbs : bs = []
    · subst hbs
      have hpay := eq_payload_of_whole hin hfits (by simp) hlen
      simp [deliver, hpay, setRxbuf, emit]
    · generalize hu : ({ setRxbuf (headerSoFar s ++ [b]) (emit (.rx [b]) s) with
        phase := afterByte s.phase s.w.rxbuf b } : State) = u
      have hphase : u.phase = afterByte s.phase s.w.rxbuf b := hu ▸ rfl
      have hsofar : headerSoFar u = headerSoFar s ++ [b] := by
        rw [headerSoFar, hphase, if_neg (afterByte_ne_hdr _ _ _), ← hu]
        rfl
      have happend : headerSoFar u ++ bs = headerSoFar s ++ b :: bs := by simp [hsofar]
      rw [ih (hphase ▸ hin) (hu ▸ hq) (by rwa [hphase, hsofar]) (by rwa [happend]) hbs, happend, ← hu]
      simp [setRxbuf, emit]

/-- Settles O45: the header's bytes are read one by one, and the fields are read back from the form. -/
theorem headerAtTheStartOfReceive : Obligations.HeaderAtTheStartOfReceive := by
  refine ⟨fun i s hport hwf hp hq => ?read, fun o l ho hl => ?formA, fun l o hl => ?formB, fun o p l ho => ?formC,
    fun o l => ?formD⟩
  case read =>
    have hsofar : headerSoFar s = [] := if_pos hp
    have hwhole : (encode i).length = headerLen ((encode i).getD 0 0) :=
      (sbepHeaderIsMadeOfTheBytesRead _ _ i (wireFormatDecodesFromItsEncoding i .sbep hport hwf)).2.2
    have hne : encode i ≠ [] := fun h => by
      have := headerLen_pos ((encode i).getD 0 0)
      rw [← hwhole, h] at this
      cases this
    refine ⟨_, exec_wire hport s, ?_, ?_⟩ <;>
      rw [deliver_header (by rw [hp]; rfl) hq (by rw [hp, hsofar]; rfl) (by simpa [hsofar] using hwhole) hne, hsofar,
        List.nil_append]
    rfl
  case formA =>
    have ho : (o == 0xF#4) = false := beq_eq_false_iff_ne.mpr ho
    have hl : (l == 0xF#4) = false := beq_eq_false_iff_ne.mpr hl
    simp only [encode, headerOpcode, headerDataLen, List.getD_cons_zero, opcodeExtended_packNibbles,
      lengthExtended_packNibbles, ho, hl, highNibble_packNibbles, lowNibble_packNibbles, Bool.false_eq_true, if_false]
    exact ⟨BitVec.toNat_setWidth_of_le (by decide), trivial⟩
  case formB =>
    have hl : (l == 0xF#4) = false := beq_eq_false_iff_ne.mpr hl
    simp [encode, headerOpcode, headerDataLen, hl, lowNibble_packNibbles]
  case formC =>
    have ho : (o == 0xF#4) = false := beq_eq_false_iff_ne.mpr ho
    simp only [encode, headerOpcode, headerDataLen, List.getD_cons_zero, opcodeExtended_packNibbles,
      lengthExtended_packNibbles, ho, highNibble_packNibbles, Bool.false_eq_true, if_false]
    exact ⟨BitVec.toNat_setWidth_of_le (by decide), rfl⟩
  case formD =>
    have ho : opcodeExtended 0xFF#8 = true := by decide
    have hl : lengthExtended 0xFF#8 = true := by decide
    exact ⟨if_pos ho, if_pos hl⟩

/-- Settles O31: whatever read it is, the timeout gives it all there is, which is too short. -/
theorem shortReadFailsReceive : Obligations.ShortReadFailsReceive := by
  intro s n ts hp hn hlen hs
  have hw : workingOf s.phase = [.opcode, .data, .acc, .rxbuf] := by
    cases h : s.phase <;> rw [h] at hp <;> first | rfl | cases hp
  have hraise : afterRead s.rxq { s with rxq := [], sched := ts }
      = raiseError .checksumFailure (emit (.rx s.rxq) { s with rxq := [], sched := ts }) := by
    obtain hh | hpay := inReceive_cases hp
    · rw [pendingRead_header hh] at hn
      cases hn
      rw [List.length_eq_zero_iff.mp (Nat.lt_one_iff.mp hlen)]
      exact afterRead_header_nil (s := { s with rxq := [], sched := ts }) hh
    · have hshort : s.rxq.length < headerDataLen s.w.rxbuf := by
        simp only [pendingRead, hpay, Option.some.injEq] at hn
        omega
      rw [afterRead_epRxPayload (s := { s with rxq := [], sched := ts }) hpay, if_pos hshort]
  rw [step_env hs, envTurn, timeoutTurn_takes (s := { s with sched := ts }) hn hlen, hraise,
    raiseError_eq (s := emit (.rx s.rxq) { s with rxq := [], sched := ts }) _ hw]
  obtain ⟨o, d, dl, c, rb, rl, k, he⟩ := endOp_sbepReceive .checksumFailure .none
    (emit (.rx s.rxq) { s with rxq := [], sched := ts })
  exact ⟨o, c, d, rb, dl, rl, k, by rw [he]; simp [emit]⟩

end Sys2Proof.Proofs

/-! PROOFS. The edges of `BOOT` with their exact next states: preflight, ready detection, negotiation, the echo, the
final response (44_bootstrap.md R232 to R256). -/

namespace Sys2Proof.Proofs

open Sys2Proof.Machine Sys2Proof.Safety

/-- The block loop's test with a block left (R250). -/
theorem nextBlock_send {s : State} (h : s.cursor.toNat < (sessionImage s).length) :
    nextBlock s = { s with phase := .btBlockSend } := if_pos h

theorem nextBlock_final {s : State} (h : (sessionImage s).length ≤ s.cursor.toNat) : nextBlock s = enterFinal s :=
  if_neg (by omega)

theorem enterFinal_eq (s : State) : enterFinal s = { s with
    phase := .btFinalWait, baud := 115200, rxq := [], trace := s.trace ++ [.baud 115200, .drop s.rxq] } := by
  simp [enterFinal, flushInput, driveBaud, emit]

theorem enterNegotiation_eq (s : State) : enterNegotiation s = { s with
    phase := .btNegotiate, baud := sessionBaud s, rxq := [], wire := s.wire ++ [triggerByte]
    trace := s.trace ++ [.baud (sessionBaud s), .drop s.rxq, .tx [triggerByte]] } := by
  simp [enterNegotiation, flushInput, driveBaud, writeLine, emit, sessionBaud]

section Edges

variable {s : State}

theorem workingOf_boot (h : inBoot s.phase = true) : workingOf s.phase = [.blk, .echo, .rdy, .resp] := by
  cases hp : s.phase <;> rw [hp] at h <;> first | rfl | cases h

/-- A preflight that fails (R232). -/
theorem preflight_fails (hp : s.phase = .btPreflight) (h : s.imgValid = false ∨ 4096 < s.imgLen.toNat) :
    ∃ b e r p n, engineTurn s = { s with
      phase := .idle, status := .bootloaderFileError, result := .none, session := none
      w := { s.w with blk := b, echo := e, rdy := r, resp := p }
      trace := s.trace ++ [.ended .bootloaderFileError], free := n } := by
  rw [engineTurn_edge (by simp [pendingRead, hp]), edgeTurn_btPreflight hp, preflight, if_pos h,
    raiseError_eq _ (workingOf_boot (by rw [hp]; rfl))]
  exact endOp_boot _ _ s

/-- A preflight that passes latches the session and starts ready detection (R232, R238). -/
theorem preflight_passes (hp : s.phase = .btPreflight) (hvalid : s.imgValid = true) (hlen : s.imgLen.toNat ≤ 4096) :
    engineTurn s = { s with
      phase := .btReadyWait, baud := 460, rxq := []
      session := some { bootImage := some (memRead s.img s.imgLen.toNat 0 s.imgLen.toNat)
                        baud := s.cfg.bootBaud, readySet := s.cfg.readySet }
      trace := s.trace ++ [.baud 460, .drop s.rxq] } := by
  rw [engineTurn_edge (by simp [pendingRead, hp]), edgeTurn_btPreflight hp, preflight,
    if_neg (by simp [hvalid, hlen])]
  simp [flushInput, driveBaud, latchSession, emit]

variable {p rest : Bytes}

/-- A window of eight bytes that is a ready pattern (R240 to R244). -/
theorem ready_member (hp : s.phase = .btReadyWait) (hq : s.rxq = p ++ rest) (hlen : p.length = 8)
    (h : p ∈ sessionReadySet s) : engineTurn s = { s with
      phase := .btNegotiate, baud := sessionBaud s, rxq := [], wire := s.wire ++ [triggerByte]
      w := { s.w with rdy := p }
      trace := s.trace ++ [.rx p, .baud (sessionBaud s), .drop rest, .tx [triggerByte]] } := by
  rw [engineTurn_edge (by simp [pendingRead, hp]), edgeTurn_btReadyWait hp, if_pos (by simp [hq, hlen])]
  simp only [readyTest, hq, List.take_left' hlen, List.drop_left' hlen]
  rw [if_pos (by exact h), enterNegotiation_eq]
  simp [emit, sessionBaud]

/-- A window of eight other bytes (R242). -/
theorem ready_other (hp : s.phase = .btReadyWait) (hq : s.rxq = p ++ rest) (hlen : p.length = 8)
    (h : p ∉ sessionReadySet s) : engineTurn s = { s with
      rxq := rest, w := { s.w with rdy := p }, trace := s.trace ++ [.rx p, .log p] } := by
  rw [engineTurn_edge (by simp [pendingRead, hp]), edgeTurn_btReadyWait hp, if_pos (by simp [hq, hlen])]
  simp only [readyTest, hq, List.take_left' hlen, List.drop_left' hlen]
  rw [if_neg (by exact h)]
  simp [emit]

/-- An echo that is the block twice, with a block left (R252). -/
theorem echo_next (hp : s.phase = .btBlockEcho) (hq : s.rxq = p ++ rest) (hlen : p.length = 16)
    (h : p = s.w.blk ++ s.w.blk) (hlt : (s.cursor + 8#13).toNat < (sessionImage s).length) : engineTurn s = { s with
      phase := .btBlockSend, rxq := rest, cursor := s.cursor + 8#13, w := { s.w with echo := p }
      trace := s.trace ++ [.rx p] } := by
  rw [engineTurn_edge (by simp [pendingRead, hp]), edgeTurn_btBlockEcho hp, if_pos (by simp [hq, hlen])]
  simp only [echoTest, hq, List.take_left' hlen, List.drop_left' hlen]
  rw [if_pos (by exact h), nextBlock_send (by exact hlt)]
  rfl

/-- An echo that is the last block twice (R252, R255). -/
theorem echo_last (hp : s.phase = .btBlockEcho) (hq : s.rxq = p ++ rest) (hlen : p.length = 16)
    (h : p = s.w.blk ++ s.w.blk) (hle : (sessionImage s).length ≤ (s.cursor + 8#13).toNat) : engineTurn s = { s with
      phase := .btFinalWait, rxq := [], cursor := s.cursor + 8#13, baud := 115200, w := { s.w with echo := p }
      trace := s.trace ++ [.rx p, .baud 115200, .drop rest] } := by
  rw [engineTurn_edge (by simp [pendingRead, hp]), edgeTurn_btBlockEcho hp, if_pos (by simp [hq, hlen])]
  simp only [echoTest, hq, List.take_left' hlen, List.drop_left' hlen]
  rw [if_pos (by exact h), nextBlock_final (by exact hle), enterFinal_eq]
  simp [emit]

/-- Any other echo (R253). -/
theorem echo_other (hp : s.phase = .btBlockEcho) (hq : s.rxq = p ++ rest) (hlen : p.length = 16)
    (h : p ≠ s.w.blk ++ s.w.blk) : ∃ b e r q n, engineTurn s = { s with
      phase := .idle, status := .echoMismatch, result := .none, session := none, rxq := rest
      w := { s.w with blk := b, echo := e, rdy := r, resp := q }
      trace := s.trace ++ [.rx p, .ended .echoMismatch], free := n } := by
  rw [engineTurn_edge (by simp [pendingRead, hp]), edgeTurn_btBlockEcho hp, if_pos (by simp [hq, hlen])]
  simp only [echoTest, hq, List.take_left' hlen, List.drop_left' hlen]
  rw [if_neg (by exact h), raiseError_eq _ (workingOf_boot (by simp [hp, inBoot]))]
  obtain ⟨b, e, r, q, n, he⟩ := endOp_boot .echoMismatch .none
    (emit (.rx p) { s with rxq := rest, w := { s.w with echo := p } })
  exact ⟨b, e, r, q, n, by rw [he]; simp [emit]⟩

/-- The final response, whatever it is (R256). -/
theorem final_response (hp : s.phase = .btFinalWait) (hq : s.rxq ≠ []) : ∃ b e r q n, engineTurn s = { s with
      phase := .idle, status := if s.rxq = [ackByte] then .ok else .bootstrapFailed
      result := .none, session := none, rxq := []
      w := { s.w with blk := b, echo := e, rdy := r, resp := q }
      trace := s.trace ++ [.rx s.rxq, .ended (if s.rxq = [ackByte] then .ok else .bootstrapFailed)], free := n } := by
  rw [engineTurn_edge (by simp [pendingRead, hp]), edgeTurn_btFinalWait hp,
    if_pos (Nat.succ_le_iff.mpr (List.length_pos_of_ne_nil hq))]
  simp only [finalTest]
  have hw : workingOf (emit (.rx s.rxq) { s with rxq := [], w := { s.w with resp := s.rxq } }).phase = _ :=
    workingOf_boot (by simp [hp, inBoot])
  by_cases hack : s.rxq = [ackByte]
  · rw [if_pos hack, finishOp_eq _ hw, if_pos hack]
    obtain ⟨b, e, r, q, n, he⟩ := endOp_boot .ok .none
      (emit (.rx s.rxq) { s with rxq := [], w := { s.w with resp := s.rxq } })
    exact ⟨b, e, r, q, n, by rw [he]; simp [emit]⟩
  · rw [if_neg hack, raiseError_eq _ hw, if_neg hack]
    obtain ⟨b, e, r, q, n, he⟩ := endOp_boot .bootstrapFailed .none
      (emit (.rx s.rxq) { s with rxq := [], w := { s.w with resp := s.rxq } })
    exact ⟨b, e, r, q, n, by rw [he]; simp [emit]⟩

/-- The response to the trigger (R245, R250). -/
theorem afterRead_triggerResponse (hp : s.phase = .btNegotiate) :
    afterRead [triggerByte, triggerAckByte] s = nextBlock { s with
      cursor := 0x80#13, w := { s.w with resp := [triggerByte, triggerAckByte] }
      trace := s.trace ++ [.rx [triggerByte, triggerAckByte]] } := by
  rw [afterRead_btNegotiate hp, if_pos rfl]
  rfl

/-- Any other read in negotiation (R246). -/
theorem afterRead_notTriggerResponse (hp : s.phase = .btNegotiate) (h : p ≠ [triggerByte, triggerAckByte]) :
    afterRead p s = { s with w := { s.w with resp := p }, trace := s.trace ++ [.rx p] } := by
  rw [afterRead_btNegotiate hp, if_neg h]
  rfl

end Edges

/-! Settling, one turn at a time. -/

theorem run_nil (s : State) : run [] s = { settle (settleTurns s) s with sched := [] } := rfl

theorem settle_ended {s : State} (h : s.phase = .idle) (k : Nat) : settle k s = s := by cases k <;> simp [settle, h]

theorem settle_succ {s : State} (h : s.phase ≠ .idle) (k : Nat) : settle (k + 1) s = settle k (engineTurn s) := by
  rw [settle, if_neg h]

theorem settle_hold {s : State} (h : engineTurn s = s) (k : Nat) : settle k s = s := by
  induction k with
  | zero => rfl
  | succ k ih => rw [settle, h, ih, ite_self]

/-- No turn is left to an operation that ends with its next edge. -/
theorem run_nil_ends {s : State} (hp : s.phase ≠ .idle) (h : (engineTurn s).phase = .idle) :
    run [] s = { engineTurn s with sched := [] } := by
  rw [run_nil, settleTurns, settle_succ hp, settle_ended h]

/-- No turn is left to an operation that holds. -/
theorem run_nil_holds {s : State} (h : engineTurn s = s) : run [] s = { s with sched := [] } := by
  rw [run_nil, settle_hold h]

theorem run_engine {s : State} (hp : s.phase ≠ .idle) (ts : List Turn) :
    run (.engine :: ts) s = run ts (engineTurn s) := run_turn hp rfl ts

/-- Settles O32: the first edge of `BOOT` is preflight. -/
theorem bootPreflightFailsFast : Obligations.BootPreflightFailsFast := by
  refine ⟨fun s ts hidle hbad hs => ?fails, fun s bs ts hidle hs => ?cut, fun s ts hp hvalid hlen hs => ?passes⟩
  case fails =>
    obtain ⟨b, e, r, p, n, he⟩ := preflight_fails (s := opened .boot s) rfl hbad
    have hended : (engineTurn (opened .boot s)).phase = .idle := by rw [he]
    have hstart : (opened .boot s).phase ≠ .idle := nofun
    refine ⟨b, e, r, p, n, ?_⟩
    rw [exec_run (i := .boot) rfl hidle rfl]
    obtain hs | ⟨hs, rfl⟩ := hs
    · rw [hs, run_engine hstart, run_idle hended, he]
      simp [hidle]
    · rw [hs, run_nil_ends hstart hended, he]
      simp [hidle]
  case cut =>
    rw [exec_run (i := .boot) rfl hidle rfl, hs]
    simp [run, runTurn]
  case passes => rw [step_engine hs, preflight_passes (s := { s with sched := ts }) hp hvalid hlen]

/-- Settles O46: the response in full, half of it, another read, and one cut short. -/
theorem triggerResponseStartsTheTransfer : Obligations.TriggerResponseStartsTheTransfer := by
  have hreads {s : State} (hp : s.phase = .btNegotiate) : pendingRead s = some 2 := by simp [pendingRead, hp]
  refine ⟨fun s hp hq => ⟨?echo, fun hlt => ?block, fun hle => ?final⟩, fun s b0 b1 rest ts hp hq hne hs => ?other,
    fun s ts hp hlen hs => ?short⟩
  case echo =>
    rw [exec_wire (f := .trigger) rfl, encode,
      deliver_below (waitsFor_of_pendingRead (hreads hp)) (by simp [hq])]
    simp [hq, triggerByte]
  case block =>
    rw [exec_wire (f := .trigger) rfl, encode, deliver_read (hreads hp) hq rfl (by simp),
      afterRead_triggerResponse hp, nextBlock_send (by exact hlt)]
    rfl
  case final =>
    rw [exec_wire (f := .trigger) rfl, encode, deliver_read (hreads hp) hq rfl (by simp),
      afterRead_triggerResponse hp, nextBlock_final (by exact hle), enterFinal_eq]
    simp [hq, triggerByte, triggerAckByte]
  case other =>
    rw [step_engine hs, engineTurn_takes (s := { s with sched := ts }) (r := [b0, b1]) (hreads hp) hq rfl,
      afterRead_notTriggerResponse (by exact hp) hne]
  case short =>
    have hne : s.rxq ≠ [triggerByte, triggerAckByte] := fun h => by simp [h] at hlen
    rw [step_env hs, envTurn, timeoutTurn_takes (s := { s with sched := ts }) (hreads hp) hlen,
      afterRead_notTriggerResponse (by exact hp) hne]

/-- Settles O47: the window of eight is a member of the latched set or is not. -/
theorem readyPatternDecidesDetection : Obligations.ReadyPatternDecidesDetection := by
  have hwaits {s : State} (hp : s.phase = .btReadyWait) : waitsFor s = some 8 := by simp [waitsFor, hp]
  have hset {s : State} {x : Session} (hx : s.session = some x) : sessionReadySet s = x.readySet := by
    simp [sessionReadySet, hx]
  have hbaud {s : State} {x : Session} (hx : s.session = some x) : sessionBaud s = x.baud := by simp [sessionBaud, hx]
  refine ⟨fun s p x hp hq hx hlen => ?arrives, fun s p rest x ts hp hx hq hlen hs => ?queued,
    fun s ts hp hlen hs => ?fewer⟩
  case arrives =>
    have hne : p ≠ [] := fun h => by simp [h] at hlen
    have hdeliver : exec (.ready p) s = .next (engineTurn { s with rxq := p }) := by
      rw [exec_wire (f := .ready) rfl, encode, deliver_reaches (hwaits hp) (by simp [hq, hlen]) hne, hq,
        List.nil_append]
    have hwindow : p = p ++ [] := (List.append_nil p).symm
    refine ⟨fun hmem => ?_, fun hmem => ?_⟩
    · rw [hdeliver, ready_member (s := { s with rxq := p }) hp hwindow hlen ((hset hx).symm ▸ hmem)]
      simp [sessionBaud, hx, hq, triggerByte]
    · rw [hdeliver, ready_other (s := { s with rxq := p }) hp hwindow hlen ((hset hx).symm ▸ hmem)]
      simp [hq]
  case queued =>
    refine ⟨fun hmem => ?_, fun hmem => ?_⟩
    · rw [step_engine hs, ready_member (s := { s with sched := ts }) hp hq hlen ((hset hx).symm ▸ hmem)]
      simp [sessionBaud, hx, triggerByte]
    · rw [step_engine hs, ready_other (s := { s with sched := ts }) hp hq hlen ((hset hx).symm ▸ hmem)]
  case fewer => rw [step_engine hs, engineTurn_waits (s := { s with sched := ts }) (hwaits hp) hlen]

/-- Settles O48: the window of sixteen is the block twice or is not, and a block is left or is not. -/
theorem blockAtTheEcho : Obligations.BlockAtTheEcho := by
  have hwaits {s : State} (hp : s.phase = .btBlockEcho) : waitsFor s = some 16 := by simp [waitsFor, hp]
  refine ⟨fun s first data hp hdata => ⟨fun hq => ?half, fun hq hfirst => ?arrives⟩,
    fun s e rest ts hp hq hlen hs => ?queued, fun s ts hp hlen hs => ?fewer⟩
  case half =>
    rw [exec_wire (f := .block) rfl, encode, deliver_below (hwaits hp) (by simp [hq, hdata]), hq, List.nil_append]
  case arrives =>
    have hne : data ≠ [] := fun h => by simp [h] at hdata
    have hdeliver : exec (.block data) s = .next (engineTurn { s with rxq := first ++ data }) := by
      rw [exec_wire (f := .block) rfl, encode, deliver_reaches (hwaits hp) (by simp [hq, hfirst, hdata]) hne, hq]
    have hwindow : first ++ data = first ++ data ++ [] := (List.append_nil _).symm
    have hlen : (first ++ data).length = 16 := by simp [hfirst, hdata]
    refine ⟨fun heq hlt => ?_, fun heq hle => ?_, fun hne => ?_⟩
    · rw [hdeliver, echo_next (s := { s with rxq := first ++ data }) hp hwindow hlen heq hlt]
      rfl
    · rw [hdeliver, echo_last (s := { s with rxq := first ++ data }) hp hwindow hlen heq hle]
      rfl
    · obtain ⟨b, e, r, p, n, he⟩ := echo_other (s := { s with rxq := first ++ data }) hp hwindow hlen hne
      exact ⟨b, e, r, p, n, by rw [hdeliver, he]⟩
  case queued =>
    rw [step_engine hs]
    refine ⟨fun heq hlt => ?_, fun heq hle => ?_, fun hne => ?_⟩
    · rw [echo_next (s := { s with sched := ts }) hp hq hlen heq hlt]
      rfl
    · rw [echo_last (s := { s with sched := ts }) hp hq hlen heq hle]
      rfl
    · obtain ⟨b, e', r, p, n, he⟩ := echo_other (s := { s with sched := ts }) hp hq hlen hne
      exact ⟨b, e', r, p, n, by rw [he]⟩
  case fewer => rw [step_engine hs, engineTurn_waits (s := { s with sched := ts }) (hwaits hp) hlen]

/-- Settles O49. -/
theorem finalResponseIsExactlyOneByte : Obligations.FinalResponseIsExactlyOneByte := by
  refine ⟨fun s hp hq => ?arrives, fun s ts hp hq hs => ?queued⟩
  case arrives =>
    obtain ⟨b, e, r, p, n, he⟩ := final_response (s := { s with rxq := [ackByte] }) hp (by simp)
    refine ⟨b, e, r, p, n, ?_⟩
    rw [exec_wire (f := .finalAck) rfl, encode,
      deliver_reaches (n := 1) (by simp [waitsFor, hp]) (by simp [hq]) (by simp), hq, List.nil_append, he]
    simp [ackByte]
  case queued =>
    obtain ⟨b, e, r, p, n, he⟩ := final_response (s := { s with sched := ts }) hp hq
    exact ⟨b, e, r, p, n, by rw [step_engine hs, he]; rfl⟩

end Sys2Proof.Proofs

/-! PROOFS. Whole runs along the turns of an honest environment (20_memory.md R79): `READ`, `WAIT_FOR_QUIET`,
`SB9600_SEND`, `SBEP_SEND` and `BOOT`, each with its exact last state. -/

namespace Sys2Proof.Proofs

open Sys2Proof.Machine Sys2Proof.Safety

section Turns

variable {s : State}

theorem run_line (hp : s.phase ≠ .idle) (bs : Bytes) (ts : List Turn) :
    run (.line bs :: ts) s = run ts (deliver bs s) := run_turn hp rfl ts

theorem run_timeout (hp : s.phase ≠ .idle) (ts : List Turn) :
    run (.env .timeout :: ts) s = run ts (timeoutTurn s) := run_turn hp rfl ts

/-- Arrivals with no engine turn between them are queued in order (R65). -/
theorem run_arrivals (hp : s.phase ≠ .idle) (bs : Bytes) (ts : List Turn) :
    run (arrivals bs ++ ts) s = run ts { s with rxq := s.rxq ++ bs } := by
  induction bs generalizing s with
  | nil => simp [arrivals]
  | cons b bs ih =>
    have hturn : run (arrivals (b :: bs) ++ ts) s = run (arrivals bs ++ ts) { s with rxq := s.rxq ++ [b] } :=
      run_turn hp rfl _
    rw [hturn, ih (s := { s with rxq := s.rxq ++ [b] }) hp]
    simp

/-- The engine's turn, with what it makes of the state. -/
theorem run_engine_to {s' : State} {ts : List Turn} (hp : s.phase ≠ .idle) (he : engineTurn s = s') :
    run (.engine :: ts) s = run ts s' := by rw [run_engine hp, he]

/-- A burst that is exactly the pending read, with what the end of the read makes of the state. -/
theorem run_read_to {s' : State} {n : Nat} {bs : Bytes} {ts : List Turn} (hn : pendingRead s = some n)
    (hq : s.rxq = []) (hlen : bs.length = n) (hne : bs ≠ []) (he : afterRead bs s = s') :
    run (.line bs :: ts) s = run ts s' := by
  have hp : s.phase ≠ .idle := fun h => by simp [pendingRead, h] at hn
  rw [run_line hp, deliver_read hn hq hlen hne, he]

/-- A burst that completes the window a phase waits for, with what the engine makes of it. -/
theorem run_window_to {s' : State} {n : Nat} {bs : Bytes} {ts : List Turn} (hp : s.phase ≠ .idle)
    (hn : waitsFor s = some n) (hq : s.rxq = []) (hlen : bs.length = n) (hne : bs ≠ [])
    (he : engineTurn { s with rxq := bs } = s') : run (.line bs :: ts) s = run ts s' := by
  rw [run_line hp, deliver_reaches hn (by simp [hq, hlen]) hne, hq, List.nil_append, he]

/-- A command that may hold, along turns that are known. -/
theorem exec_along {i : Instr} {ts : List Turn} (hwf : i.wellFormed = true) (hidle : s.phase = .idle)
    (hm : mayHold i = true) (hs : s.sched = ts) : exec i s = .next (run ts (opened i s)) := by
  rw [exec_run hwf hidle hm, hs]

end Turns

/-- Settles O21: the arrivals are queued, and then the read has its bytes, is cut short, or holds. -/
theorem readReturnsWhatArrived : Obligations.ReadReturnsWhatArrived := by
  intro s n arrived ts hidle
  have hreads (q : Bytes) : pendingRead { opened (.read n) s with rxq := q } = some n := rfl
  have hend (q r : Bytes) (x : List Turn) : ∃ f, { afterRead r { opened (.read n) s with rxq := q } with sched := x }
      = { s with
          status := .ok, result := .bytes r, session := none, rxq := q, w := { s.w with readCount := n }
          trace := s.trace ++ [.rx r, .ended .ok], sched := x, free := f } := by
    rw [afterRead_tRead rfl, finishOp_eq (lost := []) _ rfl]
    obtain ⟨f, he⟩ := endOp_nothing .ok (.bytes r) (emit (.rx r) { opened (.read n) s with rxq := q })
    exact ⟨f, by rw [he]; simp [emit, hidle]⟩
  have hstart : (opened (.read n) s).phase ≠ .idle := nofun
  have hbusy (q : Bytes) : ({ opened (.read n) s with rxq := q } : State).phase ≠ .idle := by simp
  refine ⟨fun hlen hs => ?full, fun hlen hs => ?short, fun hlen hs => ?held⟩
  case full =>
    obtain ⟨f, he⟩ := hend ((s.rxq ++ arrived).drop n) ((s.rxq ++ arrived).take n) ts
    refine ⟨f, ?_⟩
    rw [exec_along (i := .read n) rfl hidle rfl hs, run_arrivals hstart, run_engine (hbusy _),
      engineTurn_read (hreads _) (by simpa using hlen), completeRead, run_idle (by rw [afterRead_tRead rfl]; rfl)]
    exact congrArg _ he
  case short =>
    obtain ⟨f, he⟩ := hend [] (s.rxq ++ arrived) ts
    refine ⟨f, ?_⟩
    rw [exec_along (i := .read n) rfl hidle rfl hs, run_arrivals hstart, run_timeout (hbusy _),
      timeoutTurn_takes (hreads _) (by simpa using hlen), run_idle (by rw [afterRead_tRead rfl]; rfl)]
    exact congrArg _ he
  case held =>
    rw [exec_along (i := .read n) rfl hidle rfl hs, ← List.append_nil (arrivals arrived), run_arrivals hstart,
      run_nil_holds (engineTurn_short (hreads _) (by simpa using hlen))]
    simp

section Drain

/-! The drain loop on a line that has fallen silent (R160). -/

variable {s : State}

/-- A read of the drain that returned something is dropped, and the loop goes on. -/
theorem drain_goesOn (hp : s.phase = .tQuiet) {r : Bytes} (hr : r ≠ []) :
    afterRead r s = { s with trace := s.trace ++ [.drop r] } := by
  rw [afterRead_tQuiet hp, if_neg hr]
  rfl

/-- The empty read ends the drain. -/
theorem drain_ends (hp : s.phase = .tQuiet) : afterRead [] s = { s with
    phase := .idle, status := .ok, result := .none, session := none, timeout := s.savedTimeout
    trace := s.trace ++ [.drop [], .ended .ok], free := s.free + 1 } := by
  rw [afterRead_tQuiet hp, if_pos rfl]
  simp [finishOp, endOp_eq, emit, hp, workingOf]

/-- However much is queued, the engine's turns and two timeouts drain it. -/
theorem drain_completes {c : Nat} (hc : 1 ≤ c) (q : Bytes) :
    ∃ turns : List Turn, (∀ x ∈ turns, x = .engine ∨ x = .env .timeout) ∧ ∃ chunks : List Bytes, chunks.flatten = q ∧
      ∀ (s : State) (ts : List Turn), s.phase = .tQuiet → s.cfg.quietChunk = c → s.rxq = q →
        run (turns ++ ts) s = { s with
          phase := .idle, status := .ok, result := .none, session := none, rxq := [], timeout := s.savedTimeout
          trace := s.trace ++ chunks.map .drop ++ [.drop [], .ended .ok], sched := ts, free := s.free + 1 } := by
  induction hn : q.length using Nat.strong_induction_on generalizing q with
  | _ len ih =>
    have hreads {s : State} (hp : s.phase = .tQuiet) (hs : s.cfg.quietChunk = c) : pendingRead s = some c := by
      simp [pendingRead, hp, hs]
    have hempty (s : State) (ts : List Turn) (hp : s.phase = .tQuiet) (hs : s.cfg.quietChunk = c) (hq : s.rxq = []) :
        run (.env .timeout :: ts) s = { s with
          phase := .idle, status := .ok, result := .none, session := none, rxq := [], timeout := s.savedTimeout
          trace := s.trace ++ [.drop [], .ended .ok], sched := ts, free := s.free + 1 } := by
      rw [run_timeout (by simp [hp]), timeoutTurn_takes (hreads hp hs) (by rw [hq]; exact hc), hq,
        drain_ends (s := { s with rxq := [] }) hp, run_idle rfl]
    by_cases hfull : c ≤ len
    · obtain ⟨turns, hturns, chunks, hchunks, hrun⟩ := ih (q.drop c).length (by simp; omega) (q.drop c) rfl
      refine ⟨.engine :: turns, by simpa using hturns, q.take c :: chunks, by simp [hchunks],
        fun s ts hp hs hq => ?_⟩
      have hne : q.take c ≠ [] := by
        intro h
        have := congrArg List.length h
        rw [List.length_take, List.length_nil] at this
        omega
      have hturn : engineTurn s = { s with rxq := q.drop c, trace := s.trace ++ [.drop (q.take c)] } := by
        rw [engineTurn_read (hreads hp hs) (by rw [hq]; omega), completeRead, hq,
          drain_goesOn (s := { s with rxq := q.drop c }) hp hne]
      rw [List.cons_append, run_engine (by simp [hp]), hturn,
        hrun { s with rxq := q.drop c, trace := s.trace ++ [.drop (q.take c)] } ts hp hs rfl]
      simp
    · by_cases hnil : q = []
      · subst hnil
        exact ⟨[.env .timeout], by simp, [], rfl, fun s ts hp hs hq => by simpa using hempty s ts hp hs hq⟩
      · refine ⟨[.env .timeout, .env .timeout], by simp, [q], by simp, fun s ts hp hs hq => ?_⟩
        have hturn : timeoutTurn s = { s with rxq := [], trace := s.trace ++ [.drop q] } := by
          rw [timeoutTurn_takes (hreads hp hs) (by rw [hq]; omega), hq,
            drain_goesOn (s := { s with rxq := [] }) hp hnil]
        rw [List.cons_append, run_timeout (by simp [hp]), hturn, List.singleton_append,
          hempty { s with rxq := [], trace := s.trace ++ [.drop q] } ts hp hs rfl]
        simp

end Drain

/-- Settles O22: `TIMEOUT` is saved first and restored by the empty read. -/
theorem waitForQuietCompletes : Obligations.WaitForQuietCompletes := by
  intro s d hidle hc
  obtain ⟨turns, hturns, chunks, hchunks, hrun⟩ := drain_completes hc s.rxq
  refine ⟨turns, hturns, fun ts => ⟨chunks, s.free + 1, hchunks, ?_⟩⟩
  rw [exec_along (i := .waitForQuiet d) (ts := turns ++ ts) rfl (by exact hidle) rfl rfl, 
    hrun (opened (.waitForQuiet d) { s with sched := turns ++ ts }) ts rfl rfl rfl]
  simp [hidle]

section Send

/-! The edges of `SB9600_SEND` and `SBEP_SEND` with their exact next states (R183, R208). -/

variable {s : State}

theorem send_acquires (hp : s.phase = .sbWaitFree) (hfree : s.busyIn = false) :
    engineTurn s = { s with phase := .sbXmit } := by
  rw [engineTurn_edge (by simp [pendingRead, hp]), edgeTurn_sbWaitFree hp, if_neg (by simp [hfree])]

theorem send_transmits (hp : s.phase = .sbXmit) : engineTurn s = { s with
    phase := .sbReadback, busyOut := true, rxq := [], wire := s.wire ++ frameBytes s.w.frame
    trace := s.trace ++ [.busy true, .drop s.rxq, .tx (frameBytes s.w.frame)] } := by
  rw [engineTurn_edge (by simp [pendingRead, hp]), edgeTurn_sbXmit hp]
  simp [sendFrame, writeLine, flushInput, driveBusy, emit]

theorem send_matches (hp : s.phase = .sbReadback) {r : Bytes} (hr : r = frameBytes s.w.frame) :
    afterRead r s = { s with
      phase := .sbWaitRelease, busyOut := false, w := { s.w with rxbuf := r, rxlen := 5#9 }
      trace := s.trace ++ [.rx r, .busy false] } := by
  rw [afterRead_sbReadback hp, if_pos hr, hr]
  simp [driveBusy, setRxbuf, emit, frameBytes]

theorem send_mismatches (hp : s.phase = .sbReadback) {r : Bytes} (hr : r ≠ frameBytes s.w.frame) :
    ∃ f c rb rl n, afterRead r s = { s with
      phase := .idle, status := .transmitMismatch, result := .none, session := none
      w := { s.w with frame := f, acc := c, rxbuf := rb, rxlen := rl }
      trace := s.trace ++ [.rx r, .ended .transmitMismatch], free := n } := by
  rw [afterRead_sbReadback hp, if_neg hr, raiseError_eq (lost := [.frame, .acc, .rxbuf]) _ (by simp [hp, workingOf])]
  obtain ⟨f, c, rb, rl, n, he⟩ := endOp_sb9600 .transmitMismatch .none (setRxbuf r (emit (.rx r) s))
  exact ⟨f, c, rb, rl, n, by rw [he]; simp [emit, setRxbuf]⟩

theorem send_releases (hp : s.phase = .sbWaitRelease) (hfree : s.busyIn = false) :
    ∃ f c rb rl n, engineTurn s = { s with
      phase := .idle, status := .ok, result := .none, session := none
      w := { s.w with frame := f, acc := c, rxbuf := rb, rxlen := rl }
      trace := s.trace ++ [.ended .ok], free := n } := by
  rw [engineTurn_edge (by simp [pendingRead, hp]), edgeTurn_sbWaitRelease hp, if_neg (by simp [hfree]),
    finishOp_eq (lost := [.frame, .acc, .rxbuf]) _ (by simp [hp, workingOf])]
  exact endOp_sb9600 .ok .none s

/-- The message goes out in one frame, of the length of `TXLEN` (R208). -/
theorem message_transmits (hp : s.phase = .epXmit) : ∃ c, engineTurn s = { s with
    phase := .epReadback, rxq := [], wire := s.wire ++ sbepFrame s.w.opcode s.w.data
    w := { s.w with acc := c, txbuf := sbepFrame s.w.opcode s.w.data
                    txlen := BitVec.ofNat 9 (sbepFrame s.w.opcode s.w.data).length }
    trace := s.trace ++ [.drop s.rxq, .tx (sbepFrame s.w.opcode s.w.data)] } := by
  rw [engineTurn_edge (by simp [pendingRead, hp]), edgeTurn_epXmit hp]
  exact ⟨_, by simp [sendMessage, writeLine, flushInput, setTxbuf, emit]; rfl⟩

theorem message_matches (hp : s.phase = .epReadback) {r : Bytes} (hr : r = s.w.txbuf) : afterRead r s = { s with
    phase := .epAck, w := { s.w with rxbuf := r, rxlen := BitVec.ofNat 9 r.length }
    trace := s.trace ++ [.rx r] } := by
  rw [afterRead_epReadback hp, if_pos hr]
  simp [setRxbuf, emit]

theorem message_mismatches (hp : s.phase = .epReadback) {r : Bytes} (hr : r ≠ s.w.txbuf) :
    ∃ o d dl c tb tl rb rl n, afterRead r s = { s with
      phase := .idle, status := .transmitMismatch, result := .none, session := none
      w := { s.w with opcode := o, data := d, dlen := dl, acc := c, txbuf := tb, txlen := tl, rxbuf := rb, rxlen := rl }
      trace := s.trace ++ [.rx r, .ended .transmitMismatch], free := n } := by
  rw [afterRead_epReadback hp, if_neg hr,
    raiseError_eq (lost := [.opcode, .data, .acc, .txbuf, .rxbuf]) _ (by simp [hp, workingOf])]
  obtain ⟨o, d, dl, c, tb, tl, rb, rl, n, he⟩ := endOp_sbepSend .transmitMismatch .none (setRxbuf r (emit (.rx r) s))
  exact ⟨o, d, dl, c, tb, tl, rb, rl, n, by rw [he]; simp [emit, setRxbuf]⟩

/-- The answer to the message, whatever it is (R208, R209). -/
theorem message_answered (hp : s.phase = .epAck) (r : Bytes) : ∃ o d dl c tb tl rb rl n, afterRead r s = { s with
    phase := .idle, status := if r = [ackByte] then .ok else .notAcknowledged, result := .none, session := none
    w := { s.w with opcode := o, data := d, dlen := dl, acc := c, txbuf := tb, txlen := tl, rxbuf := rb, rxlen := rl }
    trace := s.trace ++ [.rx r, .ended (if r = [ackByte] then .ok else .notAcknowledged)], free := n } := by
  have hw : workingOf (emit (.rx r) s).phase = [.opcode, .data, .acc, .txbuf, .rxbuf] := by simp [hp, workingOf]
  rw [afterRead_epAck hp]
  split
  · obtain ⟨o, d, dl, c, tb, tl, rb, rl, n, he⟩ := endOp_sbepSend .ok .none (emit (.rx r) s)
    exact ⟨o, d, dl, c, tb, tl, rb, rl, n, by rw [finishOp_eq _ hw, he]; simp [emit]⟩
  · obtain ⟨o, d, dl, c, tb, tl, rb, rl, n, he⟩ := endOp_sbepSend .notAcknowledged .none (emit (.rx r) s)
    exact ⟨o, d, dl, c, tb, tl, rb, rl, n, by rw [raiseError_eq _ hw, he]; simp [emit]⟩

end Send

/-- Settles O24: the bus is free, the frame is written, comes back, and the bus is free again. -/
theorem sb9600SendOnAnHonestBus : Obligations.Sb9600SendOnAnHonestBus := by
  intro s a b v o ts hidle hfree hs
  set frame := sb9600Frame s.cfg.table a b v o with hframe
  obtain ⟨f, c, rb, rl, hrun⟩ : ∃ f c rb rl,
      run (.engine :: .engine :: .line frame :: .engine :: ts) (opened (.sb9600Send a b v o) s)
        = run (.engine :: ts) { s with
            phase := .sbWaitRelease, busyOut := false, rxq := [], wire := s.wire ++ frame
            w := { s.w with frame := f, acc := c, rxbuf := rb, rxlen := rl }
            trace := s.trace ++ [.busy true, .drop s.rxq, .tx frame] ++ [.rx frame, .busy false] } :=
    ⟨_, _, _, _, (run_engine_to (by simp) (send_acquires rfl (by exact hfree))).trans <|
      (run_engine_to (by simp) (send_transmits rfl)).trans <|
      run_read_to (n := 5) rfl rfl rfl (by simp [hframe, sb9600Frame]) (send_matches rfl rfl)⟩
  obtain ⟨f', c', rb', rl', n, he⟩ := send_releases (s := { s with
    phase := .sbWaitRelease, busyOut := false, rxq := [], wire := s.wire ++ frame
    w := { s.w with frame := f, acc := c, rxbuf := rb, rxlen := rl }
    trace := s.trace ++ [.busy true, .drop s.rxq, .tx frame] ++ [.rx frame, .busy false] }) rfl hfree
  refine ⟨f', c', rb', rl', n, ?_⟩
  rw [exec_along rfl hidle rfl hs, hrun, run_engine_to (by simp) he, run_idle rfl]
  simp [hidle]

/-- Settles O28: the message is written, comes back, and is acknowledged. -/
theorem sbepSendOnAnHonestLine : Obligations.SbepSendOnAnHonestLine := by
  intro s opcode data ts hidle hdata hs
  set frame := sbepFrame opcode data with hframe
  have hlen : frame.length ≤ 258 := sbepFrame_length_le opcode data hdata
  have hwf : (Instr.sbepSend opcode data).wellFormed = true := decide_eq_true hdata
  obtain ⟨c, hsend⟩ := message_transmits (s := opened (.sbepSend opcode data) s) rfl
  obtain ⟨w, o, d, dl, c', tb, tl, rb, rl, hw, hrun⟩ : ∃ w o d dl c tb tl rb rl,
      w = { s.w with opcode := o, data := d, dlen := dl, acc := c, txbuf := tb, txlen := tl, rxbuf := rb, rxlen := rl }
      ∧ run (.engine :: .line frame :: .line [0x50] :: ts) (opened (.sbepSend opcode data) s)
        = run ts (afterRead [0x50] { s with
            phase := .epAck, rxq := [], wire := s.wire ++ frame, w := w
            trace := s.trace ++ [.drop s.rxq, .tx frame] ++ [.rx frame] }) :=
    ⟨_, _, _, _, _, _, _, _, _, rfl, (run_engine_to (by simp) hsend).trans <|
      (run_read_to rfl rfl (by simp [← hframe]; omega) (by simp [sbepFrame]) (message_matches rfl rfl)).trans <|
      run_read_to (n := 1) rfl rfl rfl (by simp) rfl⟩
  obtain ⟨o', d', dl', c'', tb', tl', rb', rl', n, he⟩ := message_answered (s := { s with
    phase := .epAck, rxq := [], wire := s.wire ++ frame, w := w
    trace := s.trace ++ [.drop s.rxq, .tx frame] ++ [.rx frame] }) rfl [0x50]
  refine ⟨o', d', dl', c'', tb', tl', rb', rl', n, ?_⟩
  rw [exec_along hwf hidle rfl hs, hrun, he, run_idle rfl, hw]
  simp [hidle, ackByte]

section Boot

variable {s : State}

/-- A block is formed and written (R251, R252). -/
theorem block_transmits (hp : s.phase = .btBlockSend) {b : Bytes} (hb : blockAt (sessionImage s) s.cursor.toNat = b) :
    engineTurn s = { s with
      phase := .btBlockEcho, wire := s.wire ++ b, w := { s.w with blk := b }, trace := s.trace ++ [.tx b] } := by
  rw [engineTurn_edge (by simp [pendingRead, hp]), edgeTurn_btBlockSend hp]
  simp [sendBlock, writeLine, emit, hb]

/-- An echo that is the block twice, whatever is left of the image (R252). -/
theorem echo_matches (hp : s.phase = .btBlockEcho) {e rest : Bytes} (hq : s.rxq = e ++ rest) (hlen : e.length = 16)
    (h : e = s.w.blk ++ s.w.blk) : engineTurn s = nextBlock { s with
      rxq := rest, cursor := s.cursor + 8#13, w := { s.w with echo := e }, trace := s.trace ++ [.rx e] } := by
  rw [engineTurn_edge (by simp [pendingRead, hp]), edgeTurn_btBlockEcho hp, if_pos (by simp [hq, hlen])]
  simp only [echoTest, hq, List.take_left' hlen, List.drop_left' hlen]
  rw [if_pos (by exact h)]
  rfl

/-- The block loop against an honest MCU, from any offset on: every block that is left is sent and echoed, and then
finalization is entered (R250 to R255). -/
theorem run_honestEchoes {image : Bytes} (hmax : image.length ≤ 4096) (k : Nat) {c : Nat} (ts : List Turn)
    (hq : s.rxq = []) (himage : sessionImage s = image) (hcursor : s.cursor.toNat = c)
    (henough : image.length ≤ c + 8 * k) (hneeded : k = 0 ∨ c + 8 * k < image.length + 8) :
    ∃ b e, run (honestEchoes (blocksFrom image k c) ++ ts) (nextBlock s) = run ts (enterFinal { s with
      cursor := BitVec.ofNat 13 (c + 8 * k), wire := s.wire ++ (blocksFrom image k c).flatten
      w := { s.w with blk := b, echo := e }, trace := s.trace ++ blockEvents (blocksFrom image k c) }) := by
  induction k generalizing c s with
  | zero =>
    refine ⟨s.w.blk, s.w.echo, ?_⟩
    rw [nextBlock_final (by rw [himage]; omega)]
    simp [honestEchoes, blockEvents, blocksFrom, ← hcursor]
  | succ k ih =>
    set b := blockAt image c with hb
    have hlen : (b ++ b).length = 16 := by simp [hb, blockAt_length]
    have hnext : (s.cursor + 8#13).toNat = c + 8 := by
      rw [BitVec.toNat_add, hcursor, BitVec.toNat_ofNat]
      omega
    obtain ⟨b', e, hrun⟩ := ih (s := { s with
      cursor := s.cursor + 8#13, wire := s.wire ++ b, w := { s.w with blk := b, echo := b ++ b }
      trace := s.trace ++ [.tx b] ++ [.rx (b ++ b)], rxq := [], phase := .btBlockEcho })
      rfl himage hnext (by omega) (by omega)
    refine ⟨b', e, ?_⟩
    calc run (honestEchoes (blocksFrom image (k + 1) c) ++ ts) (nextBlock s)
        = run (.engine :: .line (b ++ b) :: (honestEchoes (blocksFrom image k (c + 8)) ++ ts))
            { s with phase := .btBlockSend } := by
          rw [nextBlock_send (by rw [himage]; omega)]
          rfl
      _ = run (.line (b ++ b) :: (honestEchoes (blocksFrom image k (c + 8)) ++ ts)) { s with
            phase := .btBlockEcho, wire := s.wire ++ b, w := { s.w with blk := b }, trace := s.trace ++ [.tx b] } :=
          run_engine_to (by simp) (block_transmits rfl (by rw [← himage, ← hcursor] at hb; exact hb.symm))
      _ = run (honestEchoes (blocksFrom image k (c + 8)) ++ ts) (nextBlock { s with
            cursor := s.cursor + 8#13, wire := s.wire ++ b, w := { s.w with blk := b, echo := b ++ b }
            trace := s.trace ++ [.tx b] ++ [.rx (b ++ b)], rxq := [], phase := .btBlockEcho }) := by
          rw [run_line (by simp), deliver_reaches (n := 16) rfl (by simp [hq, hlen])
            (fun h => by simp [h] at hlen),
            echo_matches rfl (e := b ++ b) (rest := []) (by simp [hq]) hlen rfl]
      _ = _ := by
          rw [hrun]
          simp [blocksFrom, blockEvents, enterFinal_eq, hq, ← hb, Nat.mul_succ, Nat.add_assoc, Nat.add_comm 8]


end Boot

/-- Settles O33: preflight, the ready pattern, the response to the trigger, the blocks, the final response. -/
theorem bootSendsTheWholeImage : Obligations.BootSendsTheWholeImage := by
  rintro s pattern _ ts hidle hvalid hmax rfl hmem hpattern hs
  set image := memRead s.img s.imgLen.toNat 0 s.imgLen.toNat with himage
  have hlen : image.length = s.imgLen.toNat := by rw [himage, memRead_length]; omega
  have hne : pattern ≠ [] := fun h => by simp [h] at hpattern
  let session : Session := { bootImage := some image, baud := s.cfg.bootBaud, readySet := s.cfg.readySet }
  let s1 : State := { s with
    baud := s.cfg.bootBaud, rxq := [], session := some session, wire := s.wire ++ [0xFD], cursor := 0x80#13
    w := { s.w with rdy := pattern, resp := [0xFD, 0xFF] }, phase := .btNegotiate
    trace := s.trace ++ [.baud 460, .drop s.rxq] ++ [.rx pattern, .baud s.cfg.bootBaud, .drop [], .tx [0xFD]]
      ++ [.rx [0xFD, 0xFF]] }
  have hstart (ts : List Turn) : run (.engine :: .line pattern :: .line [triggerByte, triggerAckByte] :: ts)
      (opened .boot s) = run ts (nextBlock s1) :=
    (run_engine_to (by simp) (preflight_passes rfl (by exact hvalid) (by exact hmax))).trans <|
    (run_window_to (n := 8) (by simp) rfl rfl hpattern hne
      (ready_member rfl (List.append_nil pattern).symm hpattern (by exact hmem))).trans <|
    run_read_to (n := 2) rfl rfl rfl (by simp) (afterRead_triggerResponse rfl)
  obtain ⟨b, e, hblocks⟩ := run_honestEchoes (s := s1) (image := image) (hlen ▸ hmax) (blockCount image.length)
    (.line [ackByte] :: ts) (c := 0x80) rfl rfl rfl (by simp [blockCount]; omega) (by simp [blockCount]; omega)
  obtain ⟨b', e', r, p, n, hfinal⟩ := final_response (s := { enterFinal { s1 with
    cursor := BitVec.ofNat 13 (0x80 + 8 * blockCount image.length), wire := s1.wire ++ (blocksOf image).flatten
    w := { s1.w with blk := b, echo := e }, trace := s1.trace ++ blockEvents (blocksOf image) } with rxq := [ackByte] })
    rfl (by simp)
  refine ⟨b', e', r, p, n, ?_⟩
  have hrun := (hstart _).trans <| hblocks.trans <|
    run_window_to (n := 1) (by simp) rfl rfl rfl (by simp) hfinal
  rw [exec_along (i := .boot) rfl hidle rfl (by simpa [honestBoot] using hs)]
  refine (congrArg _ hrun).trans ?_
  rw [run_idle rfl]
  simp [s1, hidle, hlen, ackByte]

end Sys2Proof.Proofs

/-! PROOFS. What `SB9600_SEND`, `SBEP_ENTER`, `SBEP_LEAVE` and `SBEP_SEND` can have reached, however the agents take
turns (42_sb9600.md R183, R184; 43_sbep.md R206 to R209). -/

namespace Sys2Proof.Proofs

open Sys2Proof.Machine Sys2Proof.Safety

/-- What a set of states needs so that an operation in it stays in it, where no deadline cuts it short: it does not
speak of the queue, the peer's line and the turns to come, and the ends of reads and the other edges lead on in it. -/
structure Outcomes (P : State → Prop) : Prop where
  congr : ∀ t q v x, P t → P { t with rxq := q, busyIn := v, sched := x }
  read : ∀ t r n, pendingRead t = some n → r.length ≤ n → P t → P (afterRead r t)
  edge : ∀ t, pendingRead t = none → P t → P (engineTurn t)

namespace Outcomes

variable {P : State → Prop} (O : Outcomes P) {s t : State}
include O

/-- Without a deadline every turn stays in the set. -/
theorem kept (hd : s.cfg.deadline = none) : KeptByTurns fun t => t.cfg = s.cfg ∧ P t where
  sched t x h := ⟨h.1, O.congr t t.rxq t.busyIn x h.2⟩
  rx t b h := ⟨h.1, O.congr t (t.rxq ++ [b]) t.busyIn t.sched h.2⟩
  busy t v h := ⟨h.1, O.congr t t.rxq v t.sched h.2⟩
  read t n hn h := by
    obtain ⟨-, -, -, hcfg, -, -⟩ := completeRead_same n t
    exact ⟨hcfg.trans h.1, O.read _ _ n (by exact hn) (List.length_take_le ..) (O.congr t _ t.busyIn t.sched h.2)⟩
  edge t h := by
    obtain ⟨-, -, -, hcfg, -, -⟩ := edgeTurn_same t
    refine ⟨hcfg.trans h.1, ?_⟩
    cases hn : pendingRead t with
    | none => exact engineTurn_edge hn ▸ O.edge t hn h.2
    | some n => exact (edgeTurn_reads hn).symm ▸ h.2
  deadline t h := by
    rw [deadlineTurn_nothing (.inl (by rw [h.1, hd]))]
    exact h

/-- The whole run of a command. -/
theorem exec {i : Instr} (hwf : i.wellFormed = true) (hm : mayHold i = true) (hidle : s.phase = .idle)
    (hd : s.cfg.deadline = none) (h : P (opened i s)) (he : exec i s = .next t) : P t := by
  obtain ⟨-, -, -, hcfg⟩ := sameMemory_opened i s
  rw [exec_run hwf hidle hm] at he
  exact (Host.Outcome.next.inj he ▸ (O.kept hd).run s.sched (opened i s) ⟨hcfg, h⟩).2

end Outcomes

/-- A property that the engine's turns keep, and the turns to come keep while the operation runs, is kept by a run. -/
theorem run_keeps_along {P : State → Prop} (hsched : ∀ t x, P t → P { t with sched := x })
    (hengine : ∀ t, P t → P (engineTurn t)) (ts : List Turn)
    (hturn : ∀ x ∈ ts, ∀ t t', t.phase ≠ .idle → P t → runTurn x t = some t' → P t') {s : State} (h : P s) :
    P (run ts s) := by
  induction ts generalizing s with
  | nil => exact hsched _ _ (settle_keeps hengine _ _ h)
  | cons x ts ih =>
    by_cases hp : s.phase = .idle
    · rw [run_idle hp]
      exact hsched _ _ h
    · cases hx : runTurn x s with
      | none =>
        rw [run, if_neg hp, hx]
        exact hsched _ _ h
      | some s' =>
        rw [run_turn hp hx]
        exact ih (fun y hy => hturn y (List.mem_cons_of_mem x hy)) (hturn x List.mem_cons_self s s' hp h hx)

/-- The peer holds the bus: the three phases that wait for it stay (R167, R168, R207). -/
theorem engineTurn_busBusy {s : State} (hp : s.phase = .sbWaitFree ∨ s.phase = .sbWaitRelease ∨ s.phase = .epLeaveWait)
    (hbusy : s.busyIn = true) : engineTurn s = s := by
  obtain hp | hp | hp := hp <;> rw [engineTurn_edge (by simp [pendingRead, hp])]
  · rw [edgeTurn_sbWaitFree hp, if_pos hbusy]
  · rw [edgeTurn_sbWaitRelease hp, if_pos hbusy]
  · rw [edgeTurn_epLeaveWait hp, if_pos hbusy]

section Send

/-! `SB9600_SEND` of a frame `f`, issued in `s`. -/

/-- What the send can have reached. -/
inductive SendReaches (s : State) (f : Bytes) (t : State) : Prop
  | before (hp : t.phase = .sbWaitFree ∨ t.phase = .sbXmit) (hframe : frameBytes t.w.frame = f)
    (hstatus : t.status = s.status) (hbusy : t.busyOut = s.busyOut) (hwire : t.wire = s.wire)
    (htrace : t.trace = s.trace)
  | readback (hp : t.phase = .sbReadback) (hframe : frameBytes t.w.frame = f) (hstatus : t.status = s.status)
    (hbusy : t.busyOut = true) (hwire : t.wire = s.wire ++ f) (d : Bytes)
    (htrace : t.trace = s.trace ++ [Event.busy true, .drop d, .tx f])
  | release (hp : t.phase = .sbWaitRelease) (hstatus : t.status = s.status) (hbusy : t.busyOut = false)
    (hwire : t.wire = s.wire ++ f) (d : Bytes)
    (htrace : t.trace = s.trace ++ [Event.busy true, .drop d, .tx f, .rx f, .busy false])
  | accepted (hp : t.phase = .idle) (hstatus : t.status = .ok) (hbusy : t.busyOut = false)
    (hwire : t.wire = s.wire ++ f) (d : Bytes)
    (htrace : t.trace = s.trace ++ [Event.busy true, .drop d, .tx f, .rx f, .busy false, .ended .ok])
  | mismatch (hp : t.phase = .idle) (hstatus : t.status = .transmitMismatch) (hbusy : t.busyOut = true)
    (hwire : t.wire = s.wire ++ f) (d r : Bytes) (hne : r ≠ f) (hlen : r.length ≤ 5)
    (htrace : t.trace = s.trace ++ [Event.busy true, .drop d, .tx f, .rx r, .ended .transmitMismatch])

theorem sendReaches_outcomes (s : State) (f : Bytes) : Outcomes (SendReaches s f) where
  congr t q v x h := by
    cases h with
    | before hp hframe hstatus hbusy hwire htrace => exact .before hp hframe hstatus hbusy hwire htrace
    | readback hp hframe hstatus hbusy hwire d htrace => exact .readback hp hframe hstatus hbusy hwire d htrace
    | release hp hstatus hbusy hwire d htrace => exact .release hp hstatus hbusy hwire d htrace
    | accepted hp hstatus hbusy hwire d htrace => exact .accepted hp hstatus hbusy hwire d htrace
    | mismatch hp hstatus hbusy hwire d r hne hlen htrace =>
      exact .mismatch hp hstatus hbusy hwire d r hne hlen htrace
  read t r n hn hr h := by
    cases h with
    | readback hp hframe hstatus hbusy hwire d htrace =>
      by_cases heq : r = f
      · rw [send_matches hp (heq.trans hframe.symm)]
        exact .release rfl hstatus rfl hwire d (by simp [htrace, heq])
      · obtain ⟨_, _, _, _, _, he⟩ := send_mismatches hp (r := r) (hframe ▸ heq)
        have hlen : r.length ≤ 5 := by simp [pendingRead, hp] at hn; omega
        rw [he]
        exact .mismatch rfl rfl hbusy hwire d r heq hlen (by simp [htrace])
    | before hp => obtain hp | hp := hp <;> simp [pendingRead, hp] at hn
    | release hp | accepted hp | mismatch hp => simp [pendingRead, hp] at hn
  edge t hn h := by
    cases h with
    | before hp hframe hstatus hbusy hwire htrace =>
      obtain hp | hp := hp
      · cases hin : t.busyIn with
        | true =>
          rw [engineTurn_busBusy (.inl hp) hin]
          exact .before (.inl hp) hframe hstatus hbusy hwire htrace
        | false =>
          rw [send_acquires hp hin]
          exact .before (.inr rfl) hframe hstatus hbusy hwire htrace
      · rw [send_transmits hp, hframe]
        exact .readback rfl hframe hstatus rfl (by simp [hwire]) t.rxq (by simp [htrace])
    | readback hp => simp [pendingRead, hp] at hn
    | release hp hstatus hbusy hwire d htrace =>
      cases hin : t.busyIn with
      | true =>
        rw [engineTurn_busBusy (.inr (.inl hp)) hin]
        exact .release hp hstatus hbusy hwire d htrace
      | false =>
        obtain ⟨_, _, _, _, _, he⟩ := send_releases hp hin
        rw [he]
        exact .accepted rfl rfl hbusy hwire d (by simp [htrace])
    | accepted hp hstatus hbusy hwire d htrace =>
      rw [engineTurn_idle hp]
      exact .accepted hp hstatus hbusy hwire d htrace
    | mismatch hp hstatus hbusy hwire d r hne hlen htrace =>
      rw [engineTurn_idle hp]
      exact .mismatch hp hstatus hbusy hwire d r hne hlen htrace

theorem sendReaches_exec {s t : State} {a b v o : Byte} (hidle : s.phase = .idle) (hd : s.cfg.deadline = none)
    (he : exec (.sb9600Send a b v o) s = .next t) : SendReaches s (sb9600Frame s.cfg.table a b v o) t :=
  (sendReaches_outcomes _ _).exec rfl rfl hidle hd (.before (.inl rfl) rfl rfl rfl rfl rfl) he

/-- The send before it asserts BUSY, the bus taken by the peer (R167). -/
def SendWaits (s t : State) : Prop :=
  t.phase = .sbWaitFree ∧ t.busyIn = true ∧ t.status = s.status ∧ t.busyOut = s.busyOut ∧ t.wire = s.wire
    ∧ t.trace = s.trace ∧ t.cfg = s.cfg

/-- While the peer does not let go of the bus, the send waits. -/
theorem sendWaits_run {s u : State} {ts : List Turn} (hd : s.cfg.deadline = none) (hts : .env (.busy false) ∉ ts)
    (h : SendWaits s u) : SendWaits s (run ts u) := by
  have hengine (t : State) (h : SendWaits s t) : SendWaits s (engineTurn t) := by
    rw [engineTurn_busBusy (.inl h.1) h.2.1]
    exact h
  refine run_keeps_along (fun _ _ h => h) hengine ts (fun x hx t t' _ h he => ?_) h
  cases x with
  | engine => exact Option.some.inj he ▸ hengine t h
  | line bs => exact Option.some.inj he ▸ deliver_keeps (fun _ _ h => h) hengine bs t h
  | deadline =>
    obtain ⟨-, -, -, -, -, -, hcfg⟩ := id h
    rw [runTurn, deadlineTurn_nothing (.inl (by rw [hcfg, hd]))] at he
    exact Option.some.inj he ▸ h
  | env e =>
    cases e with
    | rx b => exact Option.some.inj he ▸ h
    | timeout =>
      rw [runTurn, envTurn, timeoutTurn_none (by simp [pendingRead, h.1])] at he
      exact Option.some.inj he ▸ h
    | busy v =>
      cases v with
      | false => exact absurd hx hts
      | true =>
        obtain ⟨hp, -, hrest⟩ := h
        exact Option.some.inj he ▸ ⟨hp, rfl, hrest⟩
  | host | load | unload | reset => cases he

end Send

/-- Settles O25: every outcome, the hold before `BUSY` is asserted, and the single turns at the two holds. -/
theorem sb9600SendInEveryEnvironment : Obligations.Sb9600SendInEveryEnvironment := by
  refine ⟨fun s t a b v o hidle hd he => ?outcomes, fun s t a b v o hidle hd he hbusy hts => ?waits,
    fun s ts hs => ⟨fun hbusy hp => ?held, fun hfree hp => ?acquires, fun hfree hp => ?releases⟩⟩
  case outcomes =>
    cases sendReaches_exec hidle hd he with
    | before hp _ hstatus hbusy hwire htrace => exact .inl ⟨hp, hstatus, hbusy, hwire, htrace⟩
    | readback hp _ hstatus hbusy hwire d htrace => exact .inr ⟨hwire, d, .inl ⟨hp, hstatus, hbusy, htrace⟩⟩
    | release hp hstatus hbusy hwire d htrace => exact .inr ⟨hwire, d, .inr (.inl ⟨hp, hstatus, hbusy, htrace⟩)⟩
    | accepted hp hstatus hbusy hwire d htrace =>
      exact .inr ⟨hwire, d, .inr (.inr (.inl ⟨hp, hstatus, hbusy, htrace⟩))⟩
    | mismatch hp hstatus hbusy hwire d r hne hlen htrace =>
      exact .inr ⟨hwire, d, .inr (.inr (.inr ⟨hp, hstatus, hbusy, r, hne, hlen, htrace⟩))⟩
  case waits =>
    rw [exec_run rfl hidle rfl] at he
    have hstart : SendWaits s (opened (.sb9600Send a b v o) s) := ⟨rfl, hbusy, rfl, rfl, rfl, rfl, rfl⟩
    obtain ⟨hp, hin, hstatus, hout, hwire, htrace, -⟩ := Host.Outcome.next.inj he ▸ sendWaits_run hd hts hstart
    exact ⟨hp, hin, hstatus, hout, hwire, htrace⟩
  case held =>
    rw [step_engine hs, engineTurn_busBusy (s := { s with sched := ts }) (hp.imp id .inl) hbusy]
  case acquires => rw [step_engine hs, send_acquires (s := { s with sched := ts }) hp hfree]
  case releases =>
    obtain ⟨f, c, rb, rl, n, he⟩ := send_releases (s := { s with sched := ts }) hp hfree
    exact ⟨f, c, rb, rl, n, by rw [step_engine hs, he]⟩

section Enter

/-! `SBEP_ENTER` and `SBEP_LEAVE`, issued in `s`. -/

theorem enter_accepts {s : State} (hp : s.phase = .epEnterAck) : ∃ n, afterRead [ackByte] s = { s with
    phase := .idle, status := .ok, result := .none, session := none, sbepMode := true
    trace := s.trace ++ [.rx [ackByte], .ended .ok], free := n } := by
  rw [afterRead_epEnterAck hp, if_pos rfl, finishOp_eq (lost := []) _ (by simp [hp, workingOf])]
  obtain ⟨n, he⟩ := endOp_nothing .ok .none { emit (.rx [ackByte]) s with sbepMode := true }
  exact ⟨n, by rw [he]; simp [emit]⟩

theorem enter_refuses {s : State} (hp : s.phase = .epEnterAck) {r : Bytes} (hr : r ≠ [ackByte]) :
    ∃ n, afterRead r s = { s with
      phase := .idle, status := .notAcknowledged, result := .none, session := none, busyOut := false, sbepMode := false
      trace := s.trace ++ [.rx r, .busy false, .ended .notAcknowledged], free := n } := by
  rw [afterRead_epEnterAck hp, if_neg hr, raiseError_eq (lost := []) _ (by simp [hp, workingOf])]
  obtain ⟨n, he⟩ := endOp_nothing .notAcknowledged .none
    { driveBusy false (emit (.rx r) s) with sbepMode := false }
  exact ⟨n, by rw [he]; simp [emit, driveBusy]⟩

theorem leave_ends {s : State} (hp : s.phase = .epLeaveWait) (hfree : s.busyIn = false) :
    ∃ n, engineTurn s = { s with
      phase := .idle, status := .ok, result := .none, session := none, sbepMode := false
      trace := s.trace ++ [.ended .ok], free := n } := by
  rw [engineTurn_edge (by simp [pendingRead, hp]), edgeTurn_epLeaveWait hp, if_neg (by simp [hfree]),
    finishOp_eq (lost := []) _ (by simp [hp, workingOf])]
  exact endOp_nothing .ok .none { s with sbepMode := false }

/-- What the entry can have reached (R206). -/
inductive EnterReaches (s t : State) : Prop
  | waiting (hp : t.phase = .epEnterAck) (hstatus : t.status = s.status) (hbusy : t.busyOut = true)
    (hmode : t.sbepMode = s.sbepMode) (hwire : t.wire = s.wire) (htrace : t.trace = s.trace ++ [Event.busy true])
  | accepted (hp : t.phase = .idle) (hstatus : t.status = .ok) (hbusy : t.busyOut = true) (hmode : t.sbepMode = true)
    (hwire : t.wire = s.wire) (htrace : t.trace = s.trace ++ [Event.busy true, .rx [ackByte], .ended .ok])
  | refused (hp : t.phase = .idle) (hstatus : t.status = .notAcknowledged) (hbusy : t.busyOut = false)
    (hmode : t.sbepMode = false) (hwire : t.wire = s.wire) (r : Bytes) (hne : r ≠ [ackByte]) (hlen : r.length ≤ 1)
    (htrace : t.trace = s.trace ++ [Event.busy true, .rx r, .busy false, .ended .notAcknowledged])

theorem enterReaches_outcomes (s : State) : Outcomes (EnterReaches s) where
  congr t q v x h := by
    cases h with
    | waiting hp hstatus hbusy hmode hwire htrace => exact .waiting hp hstatus hbusy hmode hwire htrace
    | accepted hp hstatus hbusy hmode hwire htrace => exact .accepted hp hstatus hbusy hmode hwire htrace
    | refused hp hstatus hbusy hmode hwire r hne hlen htrace =>
      exact .refused hp hstatus hbusy hmode hwire r hne hlen htrace
  read t r n hn hr h := by
    cases h with
    | waiting hp hstatus hbusy hmode hwire htrace =>
      by_cases heq : r = [ackByte]
      · obtain ⟨_, he⟩ := enter_accepts hp
        rw [heq, he]
        exact .accepted rfl rfl hbusy rfl hwire (by simp [htrace])
      · obtain ⟨_, he⟩ := enter_refuses hp heq
        have hlen : r.length ≤ 1 := by simp [pendingRead, hp] at hn; omega
        rw [he]
        exact .refused rfl rfl rfl rfl hwire r heq hlen (by simp [htrace])
    | accepted hp | refused hp => simp [pendingRead, hp] at hn
  edge t hn h := by
    cases h with
    | waiting hp => simp [pendingRead, hp] at hn
    | accepted hp hstatus hbusy hmode hwire htrace =>
      rw [engineTurn_idle hp]
      exact .accepted hp hstatus hbusy hmode hwire htrace
    | refused hp hstatus hbusy hmode hwire r hne hlen htrace =>
      rw [engineTurn_idle hp]
      exact .refused hp hstatus hbusy hmode hwire r hne hlen htrace

theorem enterReaches_exec {s t : State} (hidle : s.phase = .idle) (hd : s.cfg.deadline = none)
    (he : exec .sbepEnter s = .next t) : EnterReaches s t :=
  (enterReaches_outcomes s).exec rfl rfl hidle hd (.waiting rfl rfl rfl rfl rfl rfl) he

/-- What the leaving can have reached (R207). -/
inductive LeaveReaches (s t : State) : Prop
  | waiting (hp : t.phase = .epLeaveWait) (hstatus : t.status = s.status) (hbusy : t.busyOut = false)
    (hmode : t.sbepMode = s.sbepMode) (hwire : t.wire = s.wire) (htrace : t.trace = s.trace ++ [Event.busy false])
  | ended (hp : t.phase = .idle) (hstatus : t.status = .ok) (hbusy : t.busyOut = false) (hmode : t.sbepMode = false)
    (hwire : t.wire = s.wire) (htrace : t.trace = s.trace ++ [Event.busy false, .ended .ok])

theorem leaveReaches_outcomes (s : State) : Outcomes (LeaveReaches s) where
  congr t q v x h := by
    cases h with
    | waiting hp hstatus hbusy hmode hwire htrace => exact .waiting hp hstatus hbusy hmode hwire htrace
    | ended hp hstatus hbusy hmode hwire htrace => exact .ended hp hstatus hbusy hmode hwire htrace
  read t r n hn hr h := by
    cases h with
    | waiting hp | ended hp => simp [pendingRead, hp] at hn
  edge t hn h := by
    cases h with
    | waiting hp hstatus hbusy hmode hwire htrace =>
      cases hin : t.busyIn with
      | true =>
        rw [engineTurn_busBusy (.inr (.inr hp)) hin]
        exact .waiting hp hstatus hbusy hmode hwire htrace
      | false =>
        obtain ⟨_, he⟩ := leave_ends hp hin
        rw [he]
        exact .ended rfl rfl hbusy rfl hwire (by simp [htrace])
    | ended hp hstatus hbusy hmode hwire htrace =>
      rw [engineTurn_idle hp]
      exact .ended hp hstatus hbusy hmode hwire htrace

theorem leaveReaches_exec {s t : State} (hidle : s.phase = .idle) (hd : s.cfg.deadline = none)
    (he : exec .sbepLeave s = .next t) : LeaveReaches s t :=
  (leaveReaches_outcomes s).exec rfl rfl hidle hd (.waiting rfl rfl rfl rfl rfl rfl) he

end Enter

/-- Settles O26: the queued byte is the whole read; and every outcome. -/
theorem sbepEnterTakesOneByte : Obligations.SbepEnterTakesOneByte := by
  refine ⟨fun s b rest ts hidle hq hs => ?queued, fun s t hidle hd he => ?outcomes⟩
  case queued =>
    have hread : engineTurn (opened .sbepEnter s) = afterRead [b] { opened .sbepEnter s with rxq := rest } :=
      engineTurn_takes (n := 1) (by simp [pendingRead]) (by simpa using hq) rfl
    by_cases hb : b = ackByte
    · subst hb
      obtain ⟨n, he⟩ := enter_accepts (s := { opened .sbepEnter s with rxq := rest }) rfl
      refine ⟨n, ?_⟩
      rw [exec_along rfl hidle rfl hs, run_engine_to (by simp) hread, he, run_idle rfl, if_pos (by rfl)]
      simp [hidle, ackByte]
    · have hne : [b] ≠ [ackByte] := fun h => hb (List.singleton_inj.mp h)
      obtain ⟨n, he⟩ := enter_refuses (s := { opened .sbepEnter s with rxq := rest }) rfl hne
      refine ⟨n, ?_⟩
      rw [exec_along rfl hidle rfl hs, run_engine_to (by simp) hread, he, run_idle rfl, if_neg (by exact hb)]
      simp [hidle]
  case outcomes =>
    cases enterReaches_exec hidle hd he with
    | waiting hp hstatus hbusy hmode hwire htrace => exact ⟨hwire, .inl ⟨hp, hstatus, hbusy, hmode, htrace⟩⟩
    | accepted hp hstatus hbusy hmode hwire htrace =>
      exact ⟨hwire, .inr (.inl ⟨hp, hstatus, hbusy, hmode, htrace⟩)⟩
    | refused hp hstatus hbusy hmode hwire r hne hlen htrace =>
      exact ⟨hwire, .inr (.inr ⟨hp, hstatus, hbusy, hmode, r, hne, hlen, htrace⟩)⟩

/-- Settles O27: a free bus ends the wait, a taken one holds it, and nothing else happens. -/
theorem sbepLeaveReleasesTheBus : Obligations.SbepLeaveReleasesTheBus := by
  refine ⟨fun s ts hidle hfree hs => ?ends, fun s hidle hbusy hs => ?holds, fun s t hidle hd he => ?outcomes⟩
  case ends =>
    obtain ⟨n, he⟩ := leave_ends (s := opened .sbepLeave s) rfl hfree
    refine ⟨n, ?_⟩
    rw [exec_along rfl hidle rfl hs, run_engine_to (by simp) he, run_idle rfl]
    simp [hidle]
  case holds =>
    rw [exec_along rfl hidle rfl hs, run_nil_holds (s := opened .sbepLeave s)
      (engineTurn_busBusy (.inr (.inr rfl)) hbusy)]
    simp [hs]
  case outcomes =>
    cases leaveReaches_exec hidle hd he with
    | waiting hp hstatus hbusy hmode hwire htrace => exact ⟨hbusy, hwire, .inl ⟨hp, hstatus, hmode, htrace⟩⟩
    | ended hp hstatus hbusy hmode hwire htrace => exact ⟨hbusy, hwire, .inr ⟨hp, hstatus, hmode, htrace⟩⟩

section Message

/-! `SBEP_SEND` of the frame of `opcode` and `data`, issued in `s`. -/

/-- What the message can have reached (R208, R209). -/
inductive MessageReaches (s : State) (opcode : Byte) (data : Bytes) (t : State) : Prop
  | before (hp : t.phase = .epXmit) (hopcode : t.w.opcode = opcode) (hdata : t.w.data = data)
    (hstatus : t.status = s.status) (hwire : t.wire = s.wire) (htrace : t.trace = s.trace)
  | readback (hp : t.phase = .epReadback) (hbuf : t.w.txbuf = sbepFrame opcode data)
    (hlen : t.w.txlen.toNat = (sbepFrame opcode data).length) (hstatus : t.status = s.status)
    (hwire : t.wire = s.wire ++ sbepFrame opcode data) (d : Bytes)
    (htrace : t.trace = s.trace ++ [Event.drop d, .tx (sbepFrame opcode data)])
  | answer (hp : t.phase = .epAck) (hstatus : t.status = s.status) (hwire : t.wire = s.wire ++ sbepFrame opcode data)
    (d : Bytes) (htrace : t.trace = s.trace ++ [Event.drop d, .tx (sbepFrame opcode data), .rx (sbepFrame opcode data)])
  | accepted (hp : t.phase = .idle) (hstatus : t.status = .ok) (hwire : t.wire = s.wire ++ sbepFrame opcode data)
    (d : Bytes) (htrace : t.trace = s.trace ++ [Event.drop d, .tx (sbepFrame opcode data), .rx (sbepFrame opcode data),
      .rx [ackByte], .ended .ok])
  | mismatch (hp : t.phase = .idle) (hstatus : t.status = .transmitMismatch)
    (hwire : t.wire = s.wire ++ sbepFrame opcode data) (d r : Bytes) (hne : r ≠ sbepFrame opcode data)
    (hlen : r.length ≤ (sbepFrame opcode data).length)
    (htrace : t.trace = s.trace ++ [Event.drop d, .tx (sbepFrame opcode data), .rx r, .ended .transmitMismatch])
  | refused (hp : t.phase = .idle) (hstatus : t.status = .notAcknowledged)
    (hwire : t.wire = s.wire ++ sbepFrame opcode data) (d r : Bytes) (hne : r ≠ [ackByte]) (hlen : r.length ≤ 1)
    (htrace : t.trace = s.trace ++ [Event.drop d, .tx (sbepFrame opcode data), .rx (sbepFrame opcode data), .rx r,
      .ended .notAcknowledged])

theorem messageReaches_outcomes (s : State) (opcode : Byte) {data : Bytes} (hdata : data.length ≤ 254) :
    Outcomes (MessageReaches s opcode data) where
  congr t q v x h := by
    cases h with
    | before hp hopcode hdata hstatus hwire htrace => exact .before hp hopcode hdata hstatus hwire htrace
    | readback hp hbuf hlen hstatus hwire d htrace => exact .readback hp hbuf hlen hstatus hwire d htrace
    | answer hp hstatus hwire d htrace => exact .answer hp hstatus hwire d htrace
    | accepted hp hstatus hwire d htrace => exact .accepted hp hstatus hwire d htrace
    | mismatch hp hstatus hwire d r hne hlen htrace => exact .mismatch hp hstatus hwire d r hne hlen htrace
    | refused hp hstatus hwire d r hne hlen htrace => exact .refused hp hstatus hwire d r hne hlen htrace
  read t r n hn hr h := by
    cases h with
    | readback hp hbuf hlen hstatus hwire d htrace =>
      by_cases heq : r = sbepFrame opcode data
      · rw [message_matches hp (heq.trans hbuf.symm)]
        exact .answer rfl hstatus hwire d (by simp [htrace, heq])
      · obtain ⟨_, _, _, _, _, _, _, _, _, he⟩ := message_mismatches hp (r := r) (hbuf ▸ heq)
        have hlen : r.length ≤ (sbepFrame opcode data).length := by simp [pendingRead, hp] at hn; omega
        rw [he]
        exact .mismatch rfl rfl hwire d r heq hlen (by simp [htrace])
    | answer hp hstatus hwire d htrace =>
      obtain ⟨_, _, _, _, _, _, _, _, _, he⟩ := message_answered hp r
      rw [he]
      by_cases heq : r = [ackByte]
      · simp only [heq, if_pos]
        exact .accepted rfl rfl hwire d (by simp [htrace])
      · have hlen : r.length ≤ 1 := by simp [pendingRead, hp] at hn; omega
        simp only [if_neg heq]
        exact .refused rfl rfl hwire d r heq hlen (by simp [htrace])
    | before hp | accepted hp | mismatch hp | refused hp => simp [pendingRead, hp] at hn
  edge t hn h := by
    cases h with
    | before hp hopcode hdata' hstatus hwire htrace =>
      obtain ⟨c, he⟩ := message_transmits hp
      have hlen := sbepFrame_length_le opcode data hdata
      rw [he, hopcode, hdata']
      exact .readback rfl rfl (by simp; omega) hstatus (by simp [hwire]) t.rxq (by simp [htrace])
    | readback hp | answer hp => simp [pendingRead, hp] at hn
    | accepted hp hstatus hwire d htrace =>
      rw [engineTurn_idle hp]
      exact .accepted hp hstatus hwire d htrace
    | mismatch hp hstatus hwire d r hne hlen htrace =>
      rw [engineTurn_idle hp]
      exact .mismatch hp hstatus hwire d r hne hlen htrace
    | refused hp hstatus hwire d r hne hlen htrace =>
      rw [engineTurn_idle hp]
      exact .refused hp hstatus hwire d r hne hlen htrace

theorem messageReaches_exec {s t : State} {opcode : Byte} {data : Bytes} (hidle : s.phase = .idle)
    (hdata : data.length ≤ 254) (hd : s.cfg.deadline = none) (he : exec (.sbepSend opcode data) s = .next t) :
    MessageReaches s opcode data t :=
  (messageReaches_outcomes s opcode hdata).exec (i := .sbepSend opcode data) (decide_eq_true hdata) rfl hidle hd
    (.before rfl rfl rfl rfl rfl rfl) he

end Message

section Quiet

/-! `WAIT_FOR_QUIET d`, issued in `s` (R160). -/

/-- The drain while it runs. -/
def Draining (s : State) (d : Nat) (t : State) : Prop :=
  t.phase = .tQuiet ∧ t.status = s.status ∧ t.timeout = d ∧ t.savedTimeout = s.timeout ∧ t.cfg = s.cfg
    ∧ ∃ chunks : List Bytes, t.trace = s.trace ++ chunks.map .drop

/-- The drain after the empty read. -/
def Drained (s t : State) : Prop :=
  t.phase = .idle ∧ t.status = .ok ∧ t.rxq = [] ∧ t.timeout = s.timeout
    ∧ ∃ chunks : List Bytes, t.trace = s.trace ++ chunks.map .drop ++ [.drop [], .ended .ok]

variable {s t : State} {d : Nat}

theorem draining_drop (h : Draining s d t) {r : Bytes} (hr : r ≠ []) (q : Bytes) :
    Draining s d (afterRead r { t with rxq := q }) := by
  obtain ⟨hp, hstatus, htimeout, hsaved, hcfg, chunks, htrace⟩ := h
  rw [drain_goesOn (s := { t with rxq := q }) hp hr]
  exact ⟨hp, hstatus, htimeout, hsaved, hcfg, chunks ++ [r], by simp [htrace]⟩

theorem draining_pendingRead (h : Draining s d t) : pendingRead t = some s.cfg.quietChunk := by
  obtain ⟨hp, -, -, -, hcfg, -⟩ := h
  simp [pendingRead, hp, hcfg]

/-- The engine's own turn takes a chunk or waits: with a chunk of at least one byte it does not end the drain (R13). -/
theorem draining_engine (hc : 1 ≤ s.cfg.quietChunk) (h : Draining s d t) : Draining s d (engineTurn t) := by
  have hn := draining_pendingRead h
  by_cases hq : s.cfg.quietChunk ≤ t.rxq.length
  · rw [engineTurn_read hn hq]
    refine draining_drop h (fun hnil => ?_) _
    have := congrArg List.length hnil
    rw [List.length_take, List.length_nil] at this
    omega
  · rw [engineTurn_short hn (by omega)]
    exact h

/-- A timeout ends the drain exactly if the queue is empty. -/
theorem draining_timeout (h : Draining s d t) :
    Draining s d (timeoutTurn t) ∨ Drained s (timeoutTurn t) := by
  have hn := draining_pendingRead h
  by_cases hq : t.rxq.length < s.cfg.quietChunk
  · rw [timeoutTurn_takes hn hq]
    by_cases hnil : t.rxq = []
    · obtain ⟨hp, hstatus, htimeout, hsaved, hcfg, chunks, htrace⟩ := h
      rw [hnil, drain_ends (s := { t with rxq := [] }) hp]
      exact .inr ⟨rfl, rfl, rfl, hsaved, chunks, by simp [htrace]⟩
    · exact .inl (draining_drop h hnil _)
  · rw [timeoutTurn_full hn (by omega)]
    exact .inl h

/-- A turn of the running drain. -/
theorem draining_turn (hc : 1 ≤ s.cfg.quietChunk) (hd : s.cfg.deadline = none) {x : Turn} {t' : State}
    (h : Draining s d t) (he : runTurn x t = some t') : Draining s d t' ∨ Drained s t' := by
  cases x with
  | engine => exact .inl (Option.some.inj he ▸ draining_engine hc h)
  | line bs =>
    exact .inl (Option.some.inj he ▸ deliver_keeps (fun _ _ h => h) (fun _ h => draining_engine hc h) bs t h)
  | deadline =>
    obtain ⟨-, -, -, -, hcfg, -⟩ := id h
    rw [runTurn, deadlineTurn_nothing (.inl (by rw [hcfg, hd]))] at he
    exact .inl (Option.some.inj he ▸ h)
  | env e =>
    cases e with
    | rx b => exact .inl (Option.some.inj he ▸ h)
    | timeout => exact Option.some.inj he ▸ draining_timeout h
    | busy v => exact .inl (Option.some.inj he ▸ h)
  | host | load | unload | reset => cases he

end Quiet

/-- Settles O23: the drain runs until a timeout finds the queue empty. -/
theorem waitForQuietLeavesAnEmptyQueue : Obligations.WaitForQuietLeavesAnEmptyQueue := by
  intro s t d hidle hc hd he
  have hstart : Draining s d (opened (.waitForQuiet d) s) := ⟨rfl, rfl, rfl, rfl, rfl, [], by simp⟩
  have hrun : Draining s d t ∨ Drained s t := by
    rw [exec_run rfl hidle rfl] at he
    refine Host.Outcome.next.inj he ▸ run_keeps_along (P := fun t => Draining s d t ∨ Drained s t) (fun _ _ h => h)
      (fun u h => ?_) _ (fun x _ u u' hp h hu => ?_) (.inl hstart)
    · obtain h | h := h
      · exact .inl (draining_engine hc h)
      · exact .inr ((engineTurn_idle h.1).symm ▸ h)
    · obtain h | h := h
      · exact draining_turn hc hd h hu
      · exact absurd h.1 hp
  obtain ⟨hp, hstatus, htimeout, hsaved, -, htrace⟩ | h := hrun
  · exact .inr ⟨hp, hstatus, htimeout, hsaved, htrace⟩
  · exact .inl h

end Sys2Proof.Proofs

/-! PROOFS. What the operations that can hold leave alone, in every environment, deadlines included (10_state.md R27 to
R36), and the statuses they end with (60_exceptions.md R272). -/

namespace Sys2Proof.Proofs

open Sys2Proof.Machine Sys2Proof.Safety

/-- The operations that can hold, those with the same frame taken together. -/
inductive Family where
  | read
  | quiet
  | send
  | enterLeave
  | message
  | receive
  | boot

/-- The operation a phase belongs to (R28). -/
def familyOf : Phase → Option Family
  | .idle => none
  | .tRead => some .read
  | .tQuiet => some .quiet
  | .sbWaitFree | .sbXmit | .sbReadback | .sbWaitRelease => some .send
  | .epEnterAck | .epLeaveWait => some .enterLeave
  | .epXmit | .epReadback | .epAck => some .message
  | .epRxHdr | .epRxExtop | .epRxPlaceholder | .epRxExtlen | .epRxPayload => some .receive
  | .btPreflight | .btReadyWait | .btNegotiate | .btBlockSend | .btBlockEcho | .btFinalWait => some .boot

/-- What no operation's frame speaks of, blotted out: phase and status, the queue and the peer's line, result, session,
trace, and the model's own fields. -/
def blot (s : State) : State :=
  { s with phase := .idle, status := .ok, rxq := [], busyIn := false, result := .none, session := none, trace := []
           sched := [], free := 0 }

/-- The state with everything blotted out that the operation may touch: what is left is its frame. -/
def frameOf (g : Family) (s : State) : State :=
  match g with
  | .read => blot s
  | .quiet => { blot s with timeout := 0, savedTimeout := 0 }
  | .send => { blot s with busyOut := false, wire := []
                           w := { s.w with frame := Working.reset.frame, acc := 0, rxbuf := [], rxlen := 0 } }
  | .enterLeave => { blot s with busyOut := false, sbepMode := false }
  | .message => { blot s with wire := []
                              w := { s.w with opcode := 0, data := [], dlen := 0, acc := 0, txbuf := [], txlen := 0
                                              rxbuf := [], rxlen := 0 } }
  | .receive => { blot s with w := { s.w with opcode := 0, data := [], dlen := 0, acc := 0, rxbuf := [], rxlen := 0 } }
  | .boot => { blot s with baud := 0, wire := [], cursor := 0
                           w := { s.w with blk := [], echo := [], rdy := [], resp := [] } }

/-- In the operation of this family, or at its end, with the frame of `u`. -/
def InFrame (g : Family) (u s : State) : Prop :=
  (s.phase = .idle ∨ familyOf s.phase = some g) ∧ frameOf g s = frameOf g u

theorem inFrame_congr {g : Family} {u s : State} (q : Bytes) (v : Bool) (x : List Turn) (h : InFrame g u s) :
    InFrame g u { s with rxq := q, busyIn := v, sched := x } := by
  obtain ⟨hp, hf⟩ := h
  exact ⟨hp, by cases g <;> exact hf⟩

/-- The working registers an operation loses at its end. -/
def lostBy : Family → List Slot
  | .read | .quiet | .enterLeave => []
  | .send => [.frame, .acc, .rxbuf]
  | .message => [.opcode, .data, .acc, .txbuf, .rxbuf]
  | .receive => [.opcode, .data, .acc, .rxbuf]
  | .boot => [.blk, .echo, .rdy, .resp]

theorem workingOf_family {p : Phase} {g : Family} (h : familyOf p = some g) : workingOf p = lostBy g := by
  cases p <;> cases h <;> rfl

theorem family_eq {p q : Phase} {g g' : Family} (h : familyOf p = some g) (hp : p = q)
    (hq : familyOf q = some g' := by rfl) : g' = g := Option.some.inj (hq.symm.trans (hp ▸ h))

theorem familyOf_of_inReceive {p : Phase} (hp : inReceive p = true) : familyOf p = some .receive := by
  cases p <;> first | rfl | cases hp

section InFrame

variable {g : Family} {s t : State}

/-- What an operation loses at its end is its own. -/
theorem frameOf_endOp (g : Family) (k : Status) (res : Result) (s : State) :
    frameOf g (endOp k res (lostBy g) s) = frameOf g s := by
  cases g with
  | read | quiet | enterLeave => rfl
  | send =>
    obtain ⟨_, _, _, _, _, he⟩ := endOp_sb9600 k res s
    exact (congrArg (frameOf .send) he).trans rfl
  | message =>
    obtain ⟨_, _, _, _, _, _, _, _, _, he⟩ := endOp_sbepSend k res s
    exact (congrArg (frameOf .message) he).trans rfl
  | receive =>
    obtain ⟨_, _, _, _, _, _, _, he⟩ := endOp_sbepReceive k res s
    exact (congrArg (frameOf .receive) he).trans rfl
  | boot =>
    obtain ⟨_, _, _, _, _, he⟩ := endOp_boot k res s
    exact (congrArg (frameOf .boot) he).trans rfl

theorem inFrame_on (ht : familyOf t.phase = some g) (hf : frameOf g t = frameOf g s) : InFrame g s t := ⟨.inr ht, hf⟩

theorem inFrame_finishOp (ht : familyOf t.phase = some g) (hf : frameOf g t = frameOf g s) {res : Result} :
    InFrame g s (finishOp res t) :=
  ⟨.inl rfl, (congrArg (frameOf g) (finishOp_eq _ (workingOf_family ht))).trans ((frameOf_endOp ..).trans hf)⟩

theorem inFrame_raiseError (ht : familyOf t.phase = some g) (hf : frameOf g t = frameOf g s) {k : Status} :
    InFrame g s (raiseError k t) :=
  ⟨.inl rfl, (congrArg (frameOf g) (raiseError_eq _ (workingOf_family ht))).trans ((frameOf_endOp ..).trans hf)⟩

/-- The block loop's test, in `BOOT`. -/
theorem inFrame_nextBlock (hf : frameOf .boot t = frameOf .boot s) : InFrame .boot s (nextBlock t) := by
  unfold nextBlock
  split
  · exact inFrame_on rfl hf
  · exact inFrame_on rfl hf

/-- A read of `SBEP_RECEIVE`. -/
theorem inFrame_afterRead_receive (hp : inReceive s.phase = true) (r : Bytes) : InFrame .receive s (afterRead r s) := by
  obtain hh | hpay := inReceive_cases hp
  · cases r with
    | nil =>
      rw [afterRead_header_nil hh]
      exact inFrame_raiseError (by exact familyOf_of_inReceive hp) (by rfl)
    | cons b r =>
      rw [afterRead_header_cons hh]
      exact inFrame_on (by exact familyOf_of_inReceive (inReceive_afterByte ..)) (by rfl)
  · rw [afterRead_epRxPayload hpay]
    split
    · exact inFrame_raiseError (by exact familyOf_of_inReceive hp) (by rfl)
    · cases hv : frameVerdict s.w.rxbuf r with
      | none =>
        rw [receiveVerdict_none (by exact hv)]
        exact inFrame_raiseError (by exact familyOf_of_inReceive hp) (by rfl)
      | some v =>
        rw [receiveVerdict_some (by exact hv)]
        refine ⟨.inl rfl, ?_⟩
        simp [frameOf, blot, endOp_eq, scramble]

/-- The end of a read. -/
theorem inFrame_afterRead {n : Nat} (hn : pendingRead s = some n) (hfamily : familyOf s.phase = some g) (r : Bytes) :
    InFrame g s (afterRead r s) := by
  cases hp : s.phase <;> simp only [pendingRead, hp, reduceCtorEq] at hn <;> obtain rfl := family_eq hfamily hp
  case tRead =>
    rw [afterRead_tRead hp]
    exact inFrame_finishOp (by exact hfamily) (by rfl)
  case tQuiet =>
    rw [afterRead_tQuiet hp]
    split
    · exact inFrame_finishOp (by exact hfamily) (by rfl)
    · exact inFrame_on (by exact hfamily) (by rfl)
  case sbReadback =>
    rw [afterRead_sbReadback hp]
    split
    · exact inFrame_on (by rfl) (by rfl)
    · exact inFrame_raiseError (by exact hfamily) (by rfl)
  case epEnterAck =>
    rw [afterRead_epEnterAck hp]
    split
    · exact inFrame_finishOp (by exact hfamily) (by rfl)
    · exact inFrame_raiseError (by exact hfamily) (by rfl)
  case epReadback =>
    rw [afterRead_epReadback hp]
    split
    · exact inFrame_on (by rfl) (by rfl)
    · exact inFrame_raiseError (by exact hfamily) (by rfl)
  case epAck =>
    rw [afterRead_epAck hp]
    split
    · exact inFrame_finishOp (by exact hfamily) (by rfl)
    · exact inFrame_raiseError (by exact hfamily) (by rfl)
  case btNegotiate =>
    rw [afterRead_btNegotiate hp]
    split
    · exact inFrame_nextBlock (by rfl)
    · exact inFrame_on (by exact hfamily) (by rfl)
  case epRxHdr | epRxExtop | epRxPlaceholder | epRxExtlen | epRxPayload =>
    exact inFrame_afterRead_receive (by simp [hp, inReceive]) r

/-- The other edges. -/
theorem inFrame_edgeTurn (hfamily : familyOf s.phase = some g) : InFrame g s (edgeTurn s) := by
  cases hn : pendingRead s with
  | some n =>
    rw [edgeTurn_reads hn]
    exact inFrame_on hfamily rfl
  | none =>
  cases hp : s.phase <;> simp only [pendingRead, hp, reduceCtorEq] at hn
  case idle => rw [hp] at hfamily; cases hfamily
  case sbWaitFree =>
    obtain rfl := family_eq hfamily hp
    rw [edgeTurn_sbWaitFree hp]
    split
    · exact inFrame_on hfamily rfl
    · exact inFrame_on rfl rfl
  case sbXmit =>
    obtain rfl := family_eq hfamily hp
    rw [edgeTurn_sbXmit hp]
    exact inFrame_on rfl rfl
  case sbWaitRelease =>
    rw [edgeTurn_sbWaitRelease hp]
    split
    · exact inFrame_on hfamily rfl
    · exact inFrame_finishOp hfamily rfl
  case epLeaveWait =>
    obtain rfl := family_eq hfamily hp
    rw [edgeTurn_epLeaveWait hp]
    split
    · exact inFrame_on hfamily rfl
    · exact inFrame_finishOp (by exact hfamily) (by rfl)
  case epXmit =>
    obtain rfl := family_eq hfamily hp
    rw [edgeTurn_epXmit hp]
    exact inFrame_on rfl (by simp [sendMessage, frameOf, blot])
  case btPreflight =>
    obtain rfl := family_eq hfamily hp
    rw [edgeTurn_btPreflight hp]
    unfold preflight
    split
    · exact inFrame_raiseError hfamily rfl
    · exact inFrame_on rfl (by simp [frameOf, blot])
  case btReadyWait =>
    obtain rfl := family_eq hfamily hp
    rw [edgeTurn_btReadyWait hp]
    split
    · simp only [readyTest]
      split
      · exact inFrame_on rfl (by simp [enterNegotiation, frameOf, blot])
      · exact inFrame_on hfamily (by simp [frameOf, blot])
    · exact inFrame_on hfamily rfl
  case btBlockSend =>
    obtain rfl := family_eq hfamily hp
    rw [edgeTurn_btBlockSend hp]
    exact inFrame_on rfl (by simp [sendBlock, frameOf, blot])
  case btBlockEcho =>
    obtain rfl := family_eq hfamily hp
    rw [edgeTurn_btBlockEcho hp]
    split
    · simp only [echoTest]
      split
      · exact inFrame_nextBlock (by simp [frameOf, blot])
      · exact inFrame_raiseError (by exact hfamily) (by simp [frameOf, blot])
    · exact inFrame_on hfamily rfl
  case btFinalWait =>
    obtain rfl := family_eq hfamily hp
    rw [edgeTurn_btFinalWait hp]
    split
    · simp only [finalTest]
      split
      · exact inFrame_finishOp (by exact hfamily) (by simp [frameOf, blot])
      · exact inFrame_raiseError (by exact hfamily) (by simp [frameOf, blot])
    · exact inFrame_on hfamily rfl

/-- A cancelled hold. -/
theorem inFrame_cancel (hfamily : familyOf s.phase = some g) :
    InFrame g s (raiseError .cancelled (beforeCancel s)) := by
  by_cases hp : s.phase = .epEnterAck
  · obtain rfl := family_eq hfamily hp
    rw [beforeCancel_epEnterAck hp]
    exact inFrame_raiseError (by exact hfamily) (by rfl)
  by_cases hp' : s.phase = .tQuiet
  · obtain rfl := family_eq hfamily hp'
    rw [beforeCancel_tQuiet hp']
    exact inFrame_raiseError (by exact hfamily) (by rfl)
  rw [beforeCancel_other hp hp']
  exact inFrame_raiseError hfamily rfl

end InFrame

/-- Every turn of an operation stays in its frame; the idle engine takes none. -/
theorem inFrame_kept (g : Family) (u : State) : KeptByTurns (InFrame g u) where
  sched s x h := inFrame_congr s.rxq s.busyIn x h
  rx s b h := inFrame_congr _ s.busyIn s.sched h
  busy s v h := inFrame_congr s.rxq v s.sched h
  read s n hn h := by
    obtain ⟨hp | hp, hf⟩ := inFrame_congr (s.rxq.drop n) s.busyIn s.sched h
    · simp [pendingRead, show s.phase = .idle from hp] at hn
    · obtain ⟨hp', hf'⟩ := inFrame_afterRead (s := { s with rxq := s.rxq.drop n }) hn hp (s.rxq.take n)
      exact ⟨hp', hf'.trans hf⟩
  edge s h := by
    obtain ⟨hp | hp, hf⟩ := id h
    · rw [edgeTurn_idle hp]
      exact h
    · obtain ⟨hp', hf'⟩ := inFrame_edgeTurn hp
      exact ⟨hp', hf'.trans hf⟩
  deadline s h := by
    obtain ⟨-, hne, -, he⟩ | he := deadlineTurn_cases s <;> rw [he]
    · obtain ⟨hp | hp, hf⟩ := h
      · exact absurd hp hne
      · obtain ⟨hp', hf'⟩ := inFrame_cancel hp
        exact ⟨hp', hf'.trans hf⟩
    · exact h

/-- The whole run of a command, against its first state. -/
theorem frame_exec {g : Family} {i : Instr} {s t : State} (hwf : i.wellFormed = true) (hm : mayHold i = true)
    (hidle : s.phase = .idle) (hp : familyOf (opened i s).phase = some g) (he : exec i s = .next t) :
    frameOf g t = frameOf g (opened i s) := by
  rw [exec_run hwf hidle hm] at he
  exact (Host.Outcome.next.inj he ▸ (inFrame_kept g (opened i s)).run s.sched (opened i s) ⟨.inr hp, rfl⟩).2

section Frames

/-! Each frame, field by field. -/

variable {s t : State}

theorem frame_read {n : Nat} (hidle : s.phase = .idle) (he : exec (.read n) s = .next t) :
    t.busyOut = s.busyOut ∧ t.sbepMode = s.sbepMode ∧ t.baud = s.baud ∧ t.wire = s.wire ∧ t.cursor = s.cursor
    ∧ t.timeout = s.timeout ∧ t.savedTimeout = s.savedTimeout ∧ t.w = { s.w with readCount := n } := by
  have h := frame_exec rfl rfl hidle rfl he
  simp only [frameOf, blot, opened_read, State.mk.injEq, true_and, and_true] at h
  obtain ⟨hbusy, hmode, hbaud, htimeout, hsaved, hwire, -, -, -, hcursor, hw, -⟩ := h
  exact ⟨hbusy, hmode, hbaud, hwire, hcursor, htimeout, hsaved, hw⟩

theorem frame_waitForQuiet {d : Nat} (hidle : s.phase = .idle) (he : exec (.waitForQuiet d) s = .next t) :
    t.busyOut = s.busyOut ∧ t.sbepMode = s.sbepMode ∧ t.baud = s.baud ∧ t.wire = s.wire ∧ t.cursor = s.cursor
    ∧ t.w = s.w := by
  have h := frame_exec rfl rfl hidle rfl he
  simp only [frameOf, blot, opened_waitForQuiet, State.mk.injEq, true_and, and_true] at h
  obtain ⟨hbusy, hmode, hbaud, hwire, -, -, -, hcursor, hw, -⟩ := h
  exact ⟨hbusy, hmode, hbaud, hwire, hcursor, hw⟩

theorem frame_sb9600Send {a b v o : Byte} (hidle : s.phase = .idle) (he : exec (.sb9600Send a b v o) s = .next t) :
    t.sbepMode = s.sbepMode ∧ t.baud = s.baud ∧ t.cursor = s.cursor ∧ t.timeout = s.timeout
    ∧ t.savedTimeout = s.savedTimeout
    ∧ ∃ f c rb rl, t.w = { s.w with frame := f, acc := c, rxbuf := rb, rxlen := rl } := by
  have h := frame_exec rfl rfl hidle rfl he
  simp only [frameOf, blot, opened_sb9600Send, State.mk.injEq, true_and, and_true] at h
  obtain ⟨hmode, hbaud, htimeout, hsaved, -, -, -, hcursor, hw, -⟩ := h
  refine ⟨hmode, hbaud, hcursor, htimeout, hsaved, t.w.frame, t.w.acc, t.w.rxbuf, t.w.rxlen, ?_⟩
  simp only [Working.mk.injEq, true_and] at hw
  apply Working.ext <;> simp [hw, buildFrame]

theorem frame_enterLeave (hidle : s.phase = .idle) (he : exec .sbepEnter s = .next t ∨ exec .sbepLeave s = .next t) :
    t.baud = s.baud ∧ t.wire = s.wire ∧ t.cursor = s.cursor ∧ t.timeout = s.timeout
    ∧ t.savedTimeout = s.savedTimeout ∧ t.w = s.w := by
  have h : frameOf .enterLeave t = frameOf .enterLeave s := by
    obtain he | he := he
    · exact frame_exec rfl rfl hidle rfl he
    · exact frame_exec rfl rfl hidle rfl he
  simp only [frameOf, blot, State.mk.injEq, true_and, and_true] at h
  obtain ⟨hbaud, htimeout, hsaved, hwire, -, -, -, hcursor, hw, -⟩ := h
  exact ⟨hbaud, hwire, hcursor, htimeout, hsaved, hw⟩

theorem frame_sbepSend {opcode : Byte} {data : Bytes} (hwf : (Instr.sbepSend opcode data).wellFormed = true)
    (hidle : s.phase = .idle) (he : exec (.sbepSend opcode data) s = .next t) :
    t.busyOut = s.busyOut ∧ t.sbepMode = s.sbepMode ∧ t.baud = s.baud ∧ t.cursor = s.cursor ∧ t.timeout = s.timeout
    ∧ t.savedTimeout = s.savedTimeout
    ∧ ∃ o' d' dl c tb tl rb rl, t.w = { s.w with
        opcode := o', data := d', dlen := dl, acc := c, txbuf := tb, txlen := tl, rxbuf := rb, rxlen := rl } := by
  have h := frame_exec hwf rfl hidle rfl he
  simp only [frameOf, blot, opened_sbepSend, setMessage, State.mk.injEq, true_and, and_true] at h
  obtain ⟨hbusy, hmode, hbaud, htimeout, hsaved, -, -, -, hcursor, hw, -⟩ := h
  refine ⟨hbusy, hmode, hbaud, hcursor, htimeout, hsaved, t.w.opcode, t.w.data, t.w.dlen, t.w.acc, t.w.txbuf,
    t.w.txlen, t.w.rxbuf, t.w.rxlen, ?_⟩
  simp only [Working.mk.injEq, true_and] at hw
  apply Working.ext <;> simp [hw]

theorem frame_sbepReceive (hidle : s.phase = .idle) (he : exec .sbepReceive s = .next t) :
    t.busyOut = s.busyOut ∧ t.sbepMode = s.sbepMode ∧ t.baud = s.baud ∧ t.wire = s.wire ∧ t.cursor = s.cursor
    ∧ t.timeout = s.timeout ∧ t.savedTimeout = s.savedTimeout
    ∧ ∃ o' d' dl c rb rl, t.w = { s.w with
        opcode := o', data := d', dlen := dl, acc := c, rxbuf := rb, rxlen := rl } := by
  have h := frame_exec rfl rfl hidle rfl he
  simp only [frameOf, blot, opened_sbepReceive, setRxbuf, State.mk.injEq, true_and, and_true] at h
  obtain ⟨hbusy, hmode, hbaud, htimeout, hsaved, hwire, -, -, -, hcursor, hw, -⟩ := h
  refine ⟨hbusy, hmode, hbaud, hwire, hcursor, htimeout, hsaved, t.w.opcode, t.w.data, t.w.dlen, t.w.acc, t.w.rxbuf,
    t.w.rxlen, ?_⟩
  simp only [Working.mk.injEq, true_and] at hw
  apply Working.ext <;> simp [hw]

theorem frame_boot (hidle : s.phase = .idle) (he : exec .boot s = .next t) :
    t.busyOut = s.busyOut ∧ t.sbepMode = s.sbepMode ∧ t.timeout = s.timeout ∧ t.savedTimeout = s.savedTimeout
    ∧ ∃ b e r p, t.w = { s.w with blk := b, echo := e, rdy := r, resp := p } := by
  have h := frame_exec rfl rfl hidle rfl he
  simp only [frameOf, blot, opened_boot, State.mk.injEq, true_and, and_true] at h
  obtain ⟨hbusy, hmode, htimeout, hsaved, -, -, -, hw, -⟩ := h
  refine ⟨hbusy, hmode, htimeout, hsaved, t.w.blk, t.w.echo, t.w.rdy, t.w.resp, ?_⟩
  simp only [Working.mk.injEq, true_and] at hw
  apply Working.ext <;> simp [hw]

end Frames

/-- A refused message changes nothing, so it stays in every frame. -/
theorem exec_sbepSend_illFormed {opcode : Byte} {data : Bytes} {s t : State}
    (hwf : (Instr.sbepSend opcode data).wellFormed = false) (he : exec (.sbepSend opcode data) s = .next t) : t = s :=
  (Host.Outcome.next.inj (((exec_command rfl s).trans (command_illFormed hwf)).symm.trans he)).symm

/-- Settles O55. -/
theorem holdingOperationsTouchOnlyTheirState : Obligations.HoldingOperationsTouchOnlyTheirState := by
  intro s t hidle
  refine ⟨fun n => frame_read hidle, fun d => frame_waitForQuiet hidle, fun a b v o => frame_sb9600Send hidle,
    frame_enterLeave hidle, fun o d he => ?_, frame_sbepReceive hidle, frame_boot hidle⟩
  cases hwf : (Instr.sbepSend o d).wellFormed with
  | true => exact frame_sbepSend hwf hidle he
  | false =>
    obtain rfl := exec_sbepSend_illFormed hwf he
    exact ⟨rfl, rfl, rfl, rfl, rfl, rfl, _, _, _, _, _, _, _, _, rfl⟩

/-- Settles O29: the frame leaves BUSY and the mode alone; the rest is every outcome of the message. -/
theorem sbepSendInEveryEnvironment : Obligations.SbepSendInEveryEnvironment := by
  intro s t opcode data hidle hdata hd he
  obtain ⟨hbusy, hmode, -⟩ := frame_sbepSend (decide_eq_true hdata) hidle he
  refine ⟨hbusy, hmode, ?_⟩
  cases messageReaches_exec hidle hdata hd he with
  | before hp _ _ hstatus hwire htrace => exact .inl ⟨hp, hstatus, hwire, htrace⟩
  | readback hp _ _ hstatus hwire d htrace => exact .inr ⟨hwire, d, .inl ⟨hp, hstatus, htrace⟩⟩
  | answer hp hstatus hwire d htrace => exact .inr ⟨hwire, d, .inr (.inl ⟨hp, hstatus, htrace⟩)⟩
  | accepted hp hstatus hwire d htrace => exact .inr ⟨hwire, d, .inr (.inr (.inl ⟨hp, hstatus, htrace⟩))⟩
  | mismatch hp hstatus hwire d r hne hlen htrace =>
    exact .inr ⟨hwire, d, .inr (.inr (.inr (.inl ⟨hp, hstatus, r, hne, hlen, htrace⟩)))⟩
  | refused hp hstatus hwire d r hne hlen htrace =>
    exact .inr ⟨hwire, d, .inr (.inr (.inr (.inr ⟨hp, hstatus, r, hne, hlen, htrace⟩)))⟩

/-- Settles O39: from the outcomes of the three operations that drive the line, and the frames of the others. -/
theorem ownershipOfBusyOut : Obligations.OwnershipOfBusyOut := by
  intro s t hidle hd
  refine ⟨fun a b v o he hp => ?send, fun he hp => ?enter, fun o d he => ?message,
    fun he => (frame_sbepReceive hidle he).1,
    fun he => ?leave, fun he => (frame_boot hidle he).1⟩
  case send =>
    cases sendReaches_exec hidle hd he with
    | accepted _ hstatus hbusy => exact ⟨fun _ => hbusy, fun h => (nomatch hstatus.symm.trans h)⟩
    | mismatch _ hstatus hbusy => exact ⟨fun h => (nomatch hstatus.symm.trans h), fun _ => hbusy⟩
    | before hp' => obtain hp' | hp' := hp' <;> simp [hp'] at hp
    | readback hp' | release hp' => simp [hp'] at hp
  case enter =>
    cases enterReaches_exec hidle hd he with
    | accepted _ hstatus hbusy => exact ⟨fun _ => hbusy, fun h => (nomatch hstatus.symm.trans h)⟩
    | refused _ hstatus hbusy => exact ⟨fun h => (nomatch hstatus.symm.trans h), fun _ => hbusy⟩
    | waiting hp' => simp [hp'] at hp
  case message =>
    cases hwf : (Instr.sbepSend o d).wellFormed with
    | true => exact (frame_sbepSend hwf hidle he).1
    | false => rw [exec_sbepSend_illFormed hwf he]
  case leave =>
    cases leaveReaches_exec hidle hd he with
    | waiting _ _ hbusy | ended _ _ hbusy => exact hbusy

end Sys2Proof.Proofs

/-! PROOFS. The engine left to itself holds or ends within the turns that settling gives it (10_state.md R14, R28,
notes/assumptions/3.md). -/

namespace Sys2Proof.Proofs

open Sys2Proof.Machine Sys2Proof.Safety

/-- Where the engine's own turn changes nothing: at rest, short of bytes, or while the peer holds the bus. -/
def Waits (s : State) : Prop :=
  s.phase = .idle ∨ (∃ n, waitsFor s = some n ∧ s.rxq.length < n)
  ∨ ((s.phase = .sbWaitFree ∨ s.phase = .sbWaitRelease ∨ s.phase = .epLeaveWait) ∧ s.busyIn = true)

theorem holds_of_waits {s : State} (h : Waits s) : Holds s := by
  obtain hp | ⟨n, hn, hq⟩ | ⟨hp, hbusy⟩ := h
  · exact engineTurn_idle hp
  · exact engineTurn_waits hn hq
  · exact engineTurn_busBusy hp hbusy

/-- How many edges that take no byte can follow one another from a phase on. -/
def edgesLeft : Phase → Nat
  | .idle => 0
  | .sbWaitFree => 4
  | .sbXmit | .epXmit => 3
  | .sbReadback | .epReadback | .btPreflight | .btBlockSend => 2
  | .tRead | .tQuiet | .sbWaitRelease | .epEnterAck | .epLeaveWait | .epAck | .epRxHdr | .epRxExtop | .epRxPlaceholder
  | .epRxExtlen | .epRxPayload | .btReadyWait | .btNegotiate | .btBlockEcho | .btFinalWait => 1

theorem edgesLeft_le (p : Phase) : edgesLeft p ≤ 4 := by cases p <;> decide

theorem edgesLeft_pos {p : Phase} (h : p ≠ .idle) : 1 ≤ edgesLeft p := by
  cases p <;> first | exact absurd rfl h | simp [edgesLeft]

/-- What every turn that is taken makes less: the queued bytes and the edges that take none. -/
def effort (s : State) : Nat := s.rxq.length + edgesLeft s.phase

theorem effort_endOp (k : Status) (res : Result) (lost : List Slot) (s : State) :
    effort (endOp k res lost s) = s.rxq.length := by simp [effort, edgesLeft]

theorem effort_finishOp (res : Result) (s : State) : effort (finishOp res s) = s.rxq.length := effort_endOp ..

theorem effort_raiseError (k : Status) (s : State) : effort (raiseError k s) = s.rxq.length := effort_endOp ..

theorem effort_nextBlock_le (s : State) : effort (nextBlock s) ≤ s.rxq.length + 2 := by
  unfold nextBlock
  split <;> simp [effort, edgesLeft]

/-- The phases of `SBEP_RECEIVE` count alike. -/
theorem edgesLeft_receive {p : Phase} (h : inReceive p = true) : edgesLeft p = 1 := by
  cases p <;> first | rfl | cases h

section Effort

variable {s : State}

theorem effort_afterRead_receive (hp : inReceive s.phase = true) (r : Bytes) :
    effort (afterRead r s) = s.rxq.length ∨ inHeader s.phase = true ∧ effort (afterRead r s) = s.rxq.length + 1 := by
  obtain hh | hpay := inReceive_cases hp
  · cases r with
    | nil =>
      rw [afterRead_header_nil hh, effort_raiseError]
      exact .inl rfl
    | cons b r =>
      rw [afterRead_header_cons hh]
      exact .inr ⟨hh, congrArg (s.rxq.length + ·) (edgesLeft_receive (inReceive_afterByte ..))⟩
  · left
    rw [afterRead_epRxPayload hpay]
    split
    · exact effort_raiseError ..
    · cases hv : frameVerdict s.w.rxbuf r with
      | none => rw [receiveVerdict_none (by exact hv), effort_raiseError]; rfl
      | some v => rw [receiveVerdict_some (by exact hv), effort_endOp]; rfl

/-- The end of a read in full, which took the bytes `r`. -/
theorem effort_afterRead {n : Nat} {r : Bytes} (hn : pendingRead s = some n) (hr : r.length = n) :
    effort (afterRead r s) < s.rxq.length + r.length + edgesLeft s.phase := by
  cases hp : s.phase <;> simp only [pendingRead, hp, reduceCtorEq, Option.some.injEq] at hn <;>
    simp only [edgesLeft]
  case tRead =>
    rw [afterRead_tRead hp, effort_finishOp, emit_rxq]
    omega
  case tQuiet =>
    rw [afterRead_tQuiet hp]
    split
    · rw [effort_finishOp, emit_rxq]
      omega
    · next hne =>
      have hlen := List.length_pos_of_ne_nil hne
      simp only [effort, emit_rxq, emit_phase, hp, edgesLeft]
      omega
  case sbReadback =>
    rw [afterRead_sbReadback hp]
    split
    · simp only [effort, driveBusy_rxq, setRxbuf_rxq, emit_rxq, edgesLeft]
      omega
    · rw [effort_raiseError, setRxbuf_rxq, emit_rxq]
      omega
  case epEnterAck =>
    rw [afterRead_epEnterAck hp]
    split
    · rw [effort_finishOp, emit_rxq]
      omega
    · rw [effort_raiseError, driveBusy_rxq, emit_rxq]
      omega
  case epReadback =>
    rw [afterRead_epReadback hp]
    split
    · simp only [effort, setRxbuf_rxq, emit_rxq, edgesLeft]
      omega
    · rw [effort_raiseError, setRxbuf_rxq, emit_rxq]
      omega
  case epAck =>
    rw [afterRead_epAck hp]
    split
    · rw [effort_finishOp, emit_rxq]
      omega
    · rw [effort_raiseError, emit_rxq]
      omega
  case btNegotiate =>
    rw [afterRead_btNegotiate hp]
    split
    · refine (effort_nextBlock_le _).trans_lt ?_
      simp only [emit_rxq]
      omega
    · simp only [effort, emit_rxq, emit_phase, hp, edgesLeft]
      omega
  case epRxHdr | epRxExtop | epRxPlaceholder | epRxExtlen | epRxPayload =>
    obtain heq | ⟨hh, heq⟩ := effort_afterRead_receive (s := s) (by simp [hp, inReceive]) r
    · omega
    · have hone := pendingRead_header hh
      simp only [pendingRead, hp, Option.some.injEq] at hone
      omega

/-- An engine's turn that is not a wait. -/
theorem effort_engineTurn (h : ¬ Waits s) : effort (engineTurn s) < effort s := by
  simp only [Waits, not_or, not_exists, not_and] at h
  obtain ⟨hidle, hbytes, hbus⟩ := h
  have henough {n : Nat} (hn : waitsFor s = some n) : n ≤ s.rxq.length := by
    have := hbytes n hn
    omega
  cases hn : pendingRead s with
  | some n =>
    have hq := henough (waitsFor_of_pendingRead hn)
    have hr : (s.rxq.take n).length = n := List.length_take_of_le hq
    have heffort := effort_afterRead (s := { s with rxq := s.rxq.drop n }) hn hr
    rw [engineTurn_read hn hq]
    simp only [List.length_drop, hr] at heffort
    simp only [completeRead, effort] at heffort ⊢
    omega
  | none =>
    rw [engineTurn_edge hn]
    cases hp : s.phase <;> simp only [pendingRead, hp, reduceCtorEq] at hn
    case idle => exact absurd hp hidle
    case sbWaitFree =>
      rw [edgeTurn_sbWaitFree hp, if_neg (hbus (.inl hp))]
      simp [effort, hp, edgesLeft]
    case sbXmit =>
      rw [edgeTurn_sbXmit hp]
      simp [effort, hp, edgesLeft, sendFrame]
    case sbWaitRelease =>
      rw [edgeTurn_sbWaitRelease hp, if_neg (hbus (.inr (.inl hp))), effort_finishOp]
      simp [effort, hp, edgesLeft]
    case epLeaveWait =>
      rw [edgeTurn_epLeaveWait hp, if_neg (hbus (.inr (.inr hp))), effort_finishOp]
      simp [effort, hp, edgesLeft]
    case epXmit =>
      rw [edgeTurn_epXmit hp]
      simp [effort, hp, edgesLeft, sendMessage]
    case btPreflight =>
      rw [edgeTurn_btPreflight hp]
      unfold preflight
      split
      · rw [effort_raiseError]
        simp [effort, hp, edgesLeft]
      · simp [effort, hp, edgesLeft]
    case btReadyWait =>
      have hq := henough (n := 8) (by simp [waitsFor, hp])
      rw [edgeTurn_btReadyWait hp, if_pos hq]
      simp only [readyTest]
      split
      · simp [effort, hp, edgesLeft, enterNegotiation]
        omega
      · simp [effort, hp]
        omega
    case btBlockSend =>
      rw [edgeTurn_btBlockSend hp]
      simp [effort, hp, edgesLeft, sendBlock]
    case btBlockEcho =>
      have hq := henough (n := 16) (by simp [waitsFor, hp])
      rw [edgeTurn_btBlockEcho hp, if_pos hq]
      simp only [echoTest]
      split
      · refine (effort_nextBlock_le _).trans_lt ?_
        simp [effort, hp, edgesLeft]
        omega
      · rw [effort_raiseError]
        simp [effort, hp, edgesLeft]
    case btFinalWait =>
      have hq := henough (n := 1) (by simp [waitsFor, hp])
      rw [edgeTurn_btFinalWait hp, if_pos hq]
      simp only [finalTest]
      split
      · rw [effort_finishOp]
        simp [effort, hp, edgesLeft]
      · rw [effort_raiseError]
        simp [effort, hp, edgesLeft]

end Effort

/-- Settling with turns for all the effort that is left reaches a hold or the end. -/
theorem settle_waits (k : Nat) (s : State) (h : effort s ≤ k) : Waits (settle k s) := by
  induction k generalizing s with
  | zero =>
    refine .inl (by_contra fun hp => ?_)
    have := edgesLeft_pos (p := s.phase) hp
    simp only [effort] at h
    omega
  | succ k ih =>
    by_cases hw : Waits s
    · rw [settle_hold (holds_of_waits hw)]
      exact hw
    · rw [settle_succ fun hp => hw (.inl hp)]
      have := effort_engineTurn hw
      exact ih _ (by omega)

/-- The turns that settling has are enough. -/
theorem settled_waits (s : State) : Waits (settle (settleTurns s) s) := by
  have := edgesLeft_le s.phase
  exact settle_waits _ s (by simp only [effort, settleTurns]; omega)

/-- A run that has taken all its turns holds or has ended. -/
theorem run_waits (ts : List Turn) (s : State) (h : (run ts s).sched = []) : Waits (run ts s) := by
  induction ts generalizing s with
  | nil => exact settled_waits s
  | cons x ts ih =>
    by_cases hp : s.phase = .idle
    · rw [run_idle hp] at h
      cases h
    · cases hx : runTurn x s with
      | none =>
        rw [run, if_neg hp, hx] at h
        cases h
      | some s' =>
        rw [run_turn hp hx] at h ⊢
        exact ih s' h

/-- A command that cannot hold ends. -/
theorem immediate_idle {i : Instr} {s : State} (hp : s.phase = .idle) : (immediate i s).phase = .idle := by
  cases i <;> first | rfl | exact hp

/-- Settles O54: a run without a turn left has settled; any other command leaves the engine at rest. -/
theorem exhaustedTurnsLeaveAHold : Obligations.ExhaustedTurnsLeaveAHold := by
  intro i s t hport hidle he hs
  obtain rfl | ⟨-, -, -, -, rfl⟩ | ⟨-, -, -, rfl⟩ | ⟨f, hwire, -⟩ := exec_cases he
  · exact engineTurn_idle hidle
  · exact engineTurn_idle (immediate_idle hidle)
  · exact holds_of_waits (run_waits _ _ hs)
  · rw [hport] at hwire
    cases hwire

end Sys2Proof.Proofs

/-! PROOFS. Two runs side by side: what `BUSY_IN` shows makes no difference to `BOOT` (41_transport.md R169), what the
working registers held makes none to any operation (10_state.md R21); and who moves `BUSY_IN` (R32). -/

namespace Sys2Proof.Proofs

open Sys2Proof.Machine Sys2Proof.Safety

/-- What a relation of two states needs so that two runs along the same turns stay in it. -/
structure Lockstep (R : State → State → Prop) : Prop where
  phase : ∀ {s t}, R s t → t.phase = s.phase
  rxq : ∀ {s t}, R s t → t.rxq = s.rxq
  sched : ∀ {s t} x, R s t → R { s with sched := x } { t with sched := x }
  rx : ∀ {s t} b, R s t → R { s with rxq := s.rxq ++ [b] } { t with rxq := t.rxq ++ [b] }
  busy : ∀ {s t} v, R s t → R { s with busyIn := v } { t with busyIn := v }
  pending : ∀ {s t}, R s t → pendingRead t = pendingRead s
  deadline : ∀ {s t}, R s t → t.cfg.deadline = s.cfg.deadline
  read : ∀ {s t n}, pendingRead s = some n → R s t → R (completeRead n s) (completeRead n t)
  edge : ∀ {s t}, pendingRead s = none → R s t → R (edgeTurn s) (edgeTurn t)
  cancel : ∀ {s t}, s.phase ≠ .idle → R s t →
    R (raiseError .cancelled (beforeCancel s)) (raiseError .cancelled (beforeCancel t))

namespace Lockstep

variable {R : State → State → Prop} (L : Lockstep R) {s t : State}
include L

theorem engine (h : R s t) : R (engineTurn s) (engineTurn t) := by
  have hnt := L.pending h
  cases hn : pendingRead s with
  | none =>
    rw [engineTurn_edge hn, engineTurn_edge (hnt.trans hn)]
    exact L.edge hn h
  | some n =>
    by_cases hq : n ≤ s.rxq.length
    · rw [engineTurn_read hn hq, engineTurn_read (hnt.trans hn) (by rwa [L.rxq h])]
      exact L.read hn h
    · rw [engineTurn_short hn (by omega), engineTurn_short (hnt.trans hn) (by rw [L.rxq h]; omega)]
      exact h

theorem timeout (h : R s t) : R (timeoutTurn s) (timeoutTurn t) := by
  have hnt := L.pending h
  cases hn : pendingRead s with
  | none =>
    rw [timeoutTurn_none hn, timeoutTurn_none (hnt.trans hn)]
    exact h
  | some n =>
    by_cases hq : n ≤ s.rxq.length
    · rw [timeoutTurn_full hn hq, timeoutTurn_full (hnt.trans hn) (by rwa [L.rxq h])]
      exact h
    · rw [timeoutTurn_read hn (by omega), timeoutTurn_read (hnt.trans hn) (by rw [L.rxq h]; omega)]
      exact L.read hn h

theorem deadlineTurn (h : R s t) : R (deadlineTurn s) (deadlineTurn t) := by
  unfold Machine.deadlineTurn
  rw [L.deadline h, L.phase h]
  split
  · next hp => exact L.cancel hp.2.1 h
  · exact h

theorem deliver (bs : Bytes) (h : R s t) : R (deliver bs s) (deliver bs t) := by
  induction bs generalizing s t with
  | nil => exact h
  | cons b bs ih => exact ih (L.engine (L.rx b h))

theorem settle (k : Nat) (h : R s t) : R (settle k s) (settle k t) := by
  induction k generalizing s t with
  | zero => exact h
  | succ k ih =>
    by_cases hp : s.phase = .idle
    · rw [settle_ended hp, settle_ended ((L.phase h).trans hp)]
      exact h
    · rw [settle_succ hp, settle_succ fun hp' => hp ((L.phase h).symm.trans hp')]
      exact ih (L.engine h)

/-- The same turn on both sides: one that is taken, or one of the host's. -/
theorem turn (x : Turn) (h : R s t) : (runTurn x s = none ∧ runTurn x t = none)
    ∨ ∃ s' t', runTurn x s = some s' ∧ runTurn x t = some t' ∧ R s' t' := by
  cases x with
  | engine => exact .inr ⟨_, _, rfl, rfl, L.engine h⟩
  | line bs => exact .inr ⟨_, _, rfl, rfl, L.deliver bs h⟩
  | deadline => exact .inr ⟨_, _, rfl, rfl, L.deadlineTurn h⟩
  | env e =>
    cases e with
    | rx b => exact .inr ⟨_, _, rfl, rfl, L.rx b h⟩
    | busy v => exact .inr ⟨_, _, rfl, rfl, L.busy v h⟩
    | timeout => exact .inr ⟨_, _, rfl, rfl, L.timeout h⟩
  | host | load | unload | reset => exact .inl ⟨rfl, rfl⟩

theorem run (ts : List Turn) (h : R s t) : R (run ts s) (run ts t) := by
  induction ts generalizing s t with
  | nil =>
    rw [run_nil, run_nil, show settleTurns t = settleTurns s by rw [settleTurns, settleTurns, L.rxq h]]
    exact L.sched [] (L.settle _ h)
  | cons x ts ih =>
    by_cases hp : s.phase = .idle
    · rw [run_idle hp, run_idle ((L.phase h).trans hp)]
      exact L.sched _ h
    · have hp' : t.phase ≠ .idle := fun hp' => hp ((L.phase h).symm.trans hp')
      obtain ⟨hs, ht⟩ | ⟨s', t', hs, ht, h'⟩ := L.turn x h
      · rw [Machine.run, if_neg hp, hs, Machine.run, if_neg hp', ht]
        exact L.sched _ h
      · rw [run_turn hp hs, run_turn hp' ht]
        exact ih h'

end Lockstep

section BusyIn

/-! `BOOT` with two samples of the peer's line. -/

variable {s t : State} {u : Bool}

theorem nextBlock_busyIn : nextBlock { s with busyIn := u } = { nextBlock s with busyIn := u } := by
  by_cases h : s.cursor.toNat < (sessionImage s).length
  · rw [nextBlock_send h, nextBlock_send (by exact h)]
  · rw [nextBlock_final (Nat.le_of_not_lt h), nextBlock_final (by exact Nat.le_of_not_lt h)]
    rfl

/-- The end of a read in `BOOT` does not look at the line. -/
theorem afterRead_busyIn {n : Nat} (ht : t = { s with busyIn := u }) (hn : pendingRead s = some n)
    (hboot : familyOf s.phase = some .boot) (r : Bytes) : afterRead r t = { afterRead r s with busyIn := u } := by
  have hphase : t.phase = s.phase := by rw [ht]
  cases hp : s.phase <;> rw [hp] at hboot <;> cases hboot <;> simp only [pendingRead, hp, reduceCtorEq] at hn
  rw [afterRead_btNegotiate (hphase.trans hp), afterRead_btNegotiate hp]
  subst ht
  split
  · exact nextBlock_busyIn (s := { emit (.rx r) { s with w := { s.w with resp := r } } with cursor := 0x80#13 })
  · rfl

/-- Nor do the other edges of `BOOT`. -/
theorem edgeTurn_busyIn (ht : t = { s with busyIn := u }) (hboot : familyOf s.phase = some .boot) :
    edgeTurn t = { edgeTurn s with busyIn := u } := by
  have hphase : t.phase = s.phase := by rw [ht]
  cases hp : s.phase <;> rw [hp] at hboot <;> cases hboot
  case btPreflight =>
    rw [edgeTurn_btPreflight (hphase.trans hp), edgeTurn_btPreflight hp]
    subst ht
    unfold preflight
    split
    · rfl
    · rfl
  case btReadyWait =>
    rw [edgeTurn_btReadyWait (hphase.trans hp), edgeTurn_btReadyWait hp]
    subst ht
    split
    · simp only [readyTest]
      split
      · next h => rw [if_pos (by exact h)]; rfl
      · next h => rw [if_neg (by exact h)]; rfl
    · rfl
  case btNegotiate =>
    have hn : pendingRead s = some 2 := by simp [pendingRead, hp]
    have hnt : pendingRead t = some 2 := by simp [pendingRead, hphase, hp]
    rw [edgeTurn_reads hn, edgeTurn_reads hnt, ht]
  case btBlockSend =>
    rw [edgeTurn_btBlockSend (hphase.trans hp), edgeTurn_btBlockSend hp]
    subst ht
    rfl
  case btBlockEcho =>
    rw [edgeTurn_btBlockEcho (hphase.trans hp), edgeTurn_btBlockEcho hp]
    subst ht
    split
    · simp only [echoTest]
      split
      · next h =>
        rw [if_pos (by exact h)]
        exact nextBlock_busyIn (s := { emit (.rx (s.rxq.take 16)) { s with
          rxq := s.rxq.drop 16, w := { s.w with echo := s.rxq.take 16 } } with cursor := s.cursor + 8#13 })
      · next h => rw [if_neg (by exact h)]; rfl
    · rfl
  case btFinalWait =>
    rw [edgeTurn_btFinalWait (hphase.trans hp), edgeTurn_btFinalWait hp]
    subst ht
    split
    · simp only [finalTest]
      split
      · rfl
      · rfl
    · rfl

/-- In `BOOT` or at its end, with the same state but for `BUSY_IN`. -/
def SameButBusyIn (s t : State) : Prop :=
  (s.phase = .idle ∨ familyOf s.phase = some .boot) ∧ ∃ u, t = { s with busyIn := u }

theorem sameButBusyIn_completeRead {n : Nat} (hn : pendingRead s = some n) (h : SameButBusyIn s t) :
    SameButBusyIn (completeRead n s) (completeRead n t) := by
  obtain ⟨hidle | hboot, u, rfl⟩ := h
  · simp [pendingRead, hidle] at hn
  · exact ⟨(inFrame_afterRead (s := { s with rxq := s.rxq.drop n }) hn hboot (s.rxq.take n)).1, u,
      afterRead_busyIn (s := { s with rxq := s.rxq.drop n }) rfl hn hboot (s.rxq.take n)⟩

theorem sameButBusyIn_lockstep : Lockstep SameButBusyIn where
  phase := by rintro s _ ⟨-, u, rfl⟩; rfl
  rxq := by rintro s _ ⟨-, u, rfl⟩; rfl
  sched := by rintro s _ x ⟨hp, u, rfl⟩; exact ⟨hp, u, rfl⟩
  rx := by rintro s _ b ⟨hp, u, rfl⟩; exact ⟨hp, u, rfl⟩
  busy := by rintro s _ v ⟨hp, u, rfl⟩; exact ⟨hp, v, rfl⟩
  pending := by rintro s _ ⟨-, u, rfl⟩; rfl
  deadline := by rintro s _ ⟨-, u, rfl⟩; rfl
  read hn h := sameButBusyIn_completeRead hn h
  edge := by
    rintro s _ - ⟨hidle | hboot, u, rfl⟩
    · rw [edgeTurn_idle hidle, edgeTurn_idle (by exact hidle)]
      exact ⟨.inl hidle, u, rfl⟩
    · exact ⟨(inFrame_edgeTurn hboot).1, u, edgeTurn_busyIn rfl hboot⟩
  cancel := by
    rintro s _ hne ⟨hidle | hboot, u, rfl⟩
    · exact absurd hidle hne
    · have hother (q : Phase) (hq : familyOf q ≠ some .boot) : s.phase ≠ q := fun h => hq (h ▸ hboot)
      have henter := hother .epEnterAck (by simp [familyOf])
      have hquiet := hother .tQuiet (by simp [familyOf])
      rw [beforeCancel_other henter hquiet, beforeCancel_other (s := { s with busyIn := u }) henter hquiet]
      exact ⟨.inl rfl, u, rfl⟩

end BusyIn

/-- Settles O36: the two runs of `BOOT` stay the same but for `BUSY_IN`. -/
theorem bootNeverSamplesBusyIn : Obligations.BootNeverSamplesBusyIn := by
  intro s t v hidle he
  have hstart : SameButBusyIn (opened .boot s) (opened .boot { s with busyIn := v }) := ⟨.inr rfl, v, rfl⟩
  obtain ⟨-, u, hrun⟩ := sameButBusyIn_lockstep.run s.sched hstart
  rw [exec_run rfl hidle rfl] at he
  cases he
  exact ⟨u, by rw [exec_run rfl (by exact hidle) rfl, ← hrun]⟩

section Working

/-! Any operation with two contents of the working registers. -/

/-- The working registers that the operation still reads from a phase on, equal in two contents (R21). -/
def SameRead (p : Phase) (w w' : Working) : Prop :=
  match p with
  | .tRead => w'.readCount = w.readCount
  | .sbWaitFree | .sbXmit | .sbReadback => w'.frame = w.frame
  | .epXmit => w'.opcode = w.opcode ∧ w'.data = w.data
  | .epReadback => w'.txbuf = w.txbuf ∧ w'.txlen = w.txlen
  | .epRxExtop | .epRxPlaceholder | .epRxExtlen | .epRxPayload => w'.rxbuf = w.rxbuf
  | .btBlockEcho => w'.blk = w.blk
  | _ => True

/-- The same state but for working registers that are not read any more. -/
def SameButWorking (s t : State) : Prop := ∃ w, t = { s with w := w } ∧ SameRead s.phase s.w w

variable {s t : State} {w : Working}

theorem sameButWorking_endOp (k : Status) (res : Result) (lost lost' : List Slot) (ht : t = { s with w := w }) :
    SameButWorking (endOp k res lost s) (endOp k res lost' t) := by
  subst ht
  exact ⟨_, rfl, trivial⟩

theorem sameButWorking_finishOp (res : Result) (ht : t = { s with w := w }) :
    SameButWorking (finishOp res s) (finishOp res t) := sameButWorking_endOp _ _ _ _ ht

theorem sameButWorking_raiseError (k : Status) (ht : t = { s with w := w }) :
    SameButWorking (raiseError k s) (raiseError k t) := sameButWorking_endOp _ _ _ _ ht

theorem sameButWorking_nextBlock (ht : t = { s with w := w }) : SameButWorking (nextBlock s) (nextBlock t) := by
  subst ht
  by_cases h : s.cursor.toNat < (sessionImage s).length
  · rw [nextBlock_send h, nextBlock_send (by exact h)]
    exact ⟨w, rfl, trivial⟩
  · rw [nextBlock_final (Nat.le_of_not_lt h), nextBlock_final (by exact Nat.le_of_not_lt h)]
    exact ⟨w, rfl, trivial⟩

/-- With the same header bytes, nothing else is read in `SBEP_RECEIVE`. -/
theorem sameRead_of_receive {p : Phase} {w w' : Working} (hp : inReceive p = true) (h : w'.rxbuf = w.rxbuf) :
    SameRead p w w' := by
  cases p <;> first | exact h | exact trivial | cases hp

theorem headerSoFar_congr (hp : inReceive s.phase = true) (hphase : t.phase = s.phase)
    (hw : SameRead s.phase s.w t.w) : headerSoFar t = headerSoFar s := by
  unfold headerSoFar
  rw [hphase]
  cases h : s.phase <;> rw [h] at hp hw <;> first | exact hw | rfl | cases hp

/-- A read of `SBEP_RECEIVE` uses the header bytes and nothing else. -/
theorem sameButWorking_afterRead_receive (hp : inReceive s.phase = true) (ht : t = { s with w := w })
    (hw : SameRead s.phase s.w w) (r : Bytes) : SameButWorking (afterRead r s) (afterRead r t) := by
  have hphase : t.phase = s.phase := by rw [ht]
  obtain hh | hpay := inReceive_cases hp
  · have hht : inHeader t.phase = true := hphase ▸ hh
    cases r with
    | nil =>
      rw [afterRead_header_nil hh, afterRead_header_nil hht]
      subst ht
      exact sameButWorking_raiseError _ rfl
    | cons b r =>
      have hheader := headerSoFar_congr hp hphase (by rw [ht]; exact hw)
      rw [afterRead_header_cons hh, afterRead_header_cons hht, afterByte_headerSoFar, afterByte_headerSoFar, hheader,
        hphase]
      subst ht
      exact ⟨_, rfl, sameRead_of_receive (inReceive_afterByte ..) rfl⟩
  · have hbuf : t.w.rxbuf = s.w.rxbuf := by
      rw [hpay] at hw
      rw [ht]
      exact hw
    rw [afterRead_epRxPayload hpay, afterRead_epRxPayload (hphase.trans hpay), hbuf]
    split
    · subst ht
      exact sameButWorking_raiseError _ rfl
    · cases hv : frameVerdict s.w.rxbuf r with
      | none =>
        rw [receiveVerdict_none (by exact hv), receiveVerdict_none (by rw [emit_w, hbuf]; exact hv)]
        subst ht
        exact sameButWorking_raiseError _ rfl
      | some v =>
        rw [receiveVerdict_some (by exact hv), receiveVerdict_some (by rw [emit_w, hbuf]; exact hv)]
        subst ht
        exact sameButWorking_endOp _ _ _ _ rfl

/-- The end of a read uses only the registers that `SameRead` lists. -/
theorem sameButWorking_afterRead {n : Nat} (hn : pendingRead s = some n) (ht : t = { s with w := w })
    (hw : SameRead s.phase s.w w) (r : Bytes) : SameButWorking (afterRead r s) (afterRead r t) := by
  have hphase : t.phase = s.phase := by rw [ht]
  have hw' := hw
  cases hp : s.phase <;> rw [hp] at hw' hphase <;> simp only [pendingRead, hp, reduceCtorEq] at hn
  case tRead =>
    rw [afterRead_tRead hp, afterRead_tRead hphase]
    subst ht
    exact sameButWorking_finishOp _ rfl
  case tQuiet =>
    rw [afterRead_tQuiet hp, afterRead_tQuiet hphase]
    subst ht
    split
    · exact sameButWorking_finishOp _ rfl
    · exact ⟨w, rfl, by simp [SameRead, hp]⟩
  case sbReadback =>
    have hframe : t.w.frame = s.w.frame := by rw [ht]; exact hw'
    rw [afterRead_sbReadback hp, afterRead_sbReadback hphase, hframe]
    subst ht
    split
    · exact ⟨_, rfl, trivial⟩
    · exact sameButWorking_raiseError _ rfl
  case epEnterAck =>
    rw [afterRead_epEnterAck hp, afterRead_epEnterAck hphase]
    subst ht
    split
    · exact sameButWorking_finishOp _ rfl
    · exact sameButWorking_raiseError _ rfl
  case epReadback =>
    have hbuf : t.w.txbuf = s.w.txbuf := by rw [ht]; exact hw'.1
    rw [afterRead_epReadback hp, afterRead_epReadback hphase, hbuf]
    subst ht
    split
    · exact ⟨_, rfl, trivial⟩
    · exact sameButWorking_raiseError _ rfl
  case epAck =>
    rw [afterRead_epAck hp, afterRead_epAck hphase]
    subst ht
    split
    · exact sameButWorking_finishOp _ rfl
    · exact sameButWorking_raiseError _ rfl
  case btNegotiate =>
    rw [afterRead_btNegotiate hp, afterRead_btNegotiate hphase]
    subst ht
    split
    · exact sameButWorking_nextBlock rfl
    · exact ⟨_, rfl, by simp [SameRead, hp]⟩
  case epRxHdr | epRxExtop | epRxPlaceholder | epRxExtlen | epRxPayload =>
    exact sameButWorking_afterRead_receive (by simp [hp, inReceive]) ht hw r

/-- The other edges too. -/
theorem sameButWorking_edgeTurn (hn : pendingRead s = none) (ht : t = { s with w := w })
    (hw : SameRead s.phase s.w w) : SameButWorking (edgeTurn s) (edgeTurn t) := by
  have hphase : t.phase = s.phase := by rw [ht]
  have hw' := hw
  cases hp : s.phase <;> rw [hp] at hw' hphase <;> simp only [pendingRead, hp, reduceCtorEq] at hn
  case idle =>
    rw [edgeTurn_idle hp, edgeTurn_idle hphase]
    exact ⟨w, ht, hw⟩
  case sbWaitFree =>
    rw [edgeTurn_sbWaitFree hp, edgeTurn_sbWaitFree hphase]
    subst ht
    split
    · exact ⟨w, rfl, hw⟩
    · exact ⟨w, rfl, hw'⟩
  case sbXmit =>
    rw [edgeTurn_sbXmit hp, edgeTurn_sbXmit hphase]
    subst ht
    have hframe : w.frame = s.w.frame := hw'
    simp only [sendFrame, hframe]
    exact ⟨w, rfl, hw'⟩
  case sbWaitRelease =>
    rw [edgeTurn_sbWaitRelease hp, edgeTurn_sbWaitRelease hphase]
    subst ht
    split
    · exact ⟨w, rfl, hw⟩
    · exact sameButWorking_finishOp _ rfl
  case epLeaveWait =>
    rw [edgeTurn_epLeaveWait hp, edgeTurn_epLeaveWait hphase]
    subst ht
    split
    · exact ⟨w, rfl, hw⟩
    · exact sameButWorking_finishOp _ rfl
  case epXmit =>
    rw [edgeTurn_epXmit hp, edgeTurn_epXmit hphase]
    subst ht
    obtain ⟨hopcode, hdata⟩ : w.opcode = s.w.opcode ∧ w.data = s.w.data := hw'
    simp only [sendMessage, hopcode, hdata]
    exact ⟨_, rfl, rfl, rfl⟩
  case btPreflight =>
    rw [edgeTurn_btPreflight hp, edgeTurn_btPreflight hphase]
    subst ht
    unfold preflight
    split
    · exact sameButWorking_raiseError _ rfl
    · exact ⟨w, rfl, trivial⟩
  case btReadyWait =>
    rw [edgeTurn_btReadyWait hp, edgeTurn_btReadyWait hphase]
    subst ht
    split
    · simp only [readyTest]
      split
      · next h => rw [if_pos (by exact h)]; exact ⟨_, rfl, trivial⟩
      · next h => rw [if_neg (by exact h)]; exact ⟨_, rfl, by simp [SameRead, hp]⟩
    · exact ⟨w, rfl, hw⟩
  case btBlockSend =>
    rw [edgeTurn_btBlockSend hp, edgeTurn_btBlockSend hphase]
    subst ht
    exact ⟨_, rfl, rfl⟩
  case btBlockEcho =>
    rw [edgeTurn_btBlockEcho hp, edgeTurn_btBlockEcho hphase]
    subst ht
    have hblk : w.blk = s.w.blk := hw'
    split
    · simp only [echoTest]
      split
      · next h =>
        rw [if_pos (by rw [emit_w, hblk]; exact h)]
        exact sameButWorking_nextBlock rfl
      · next h =>
        rw [if_neg (by rw [emit_w, hblk]; exact h)]
        exact sameButWorking_raiseError _ rfl
    · exact ⟨w, rfl, hw⟩
  case btFinalWait =>
    rw [edgeTurn_btFinalWait hp, edgeTurn_btFinalWait hphase]
    subst ht
    split
    · simp only [finalTest]
      split
      · exact sameButWorking_finishOp _ rfl
      · exact sameButWorking_raiseError _ rfl
    · exact ⟨w, rfl, hw⟩

theorem sameButWorking_cancel (ht : t = { s with w := w }) :
    SameButWorking (raiseError .cancelled (beforeCancel s)) (raiseError .cancelled (beforeCancel t)) := by
  have hphase : t.phase = s.phase := by rw [ht]
  by_cases henter : s.phase = .epEnterAck
  · rw [beforeCancel_epEnterAck henter, beforeCancel_epEnterAck (hphase.trans henter)]
    subst ht
    exact sameButWorking_raiseError _ rfl
  by_cases hquiet : s.phase = .tQuiet
  · rw [beforeCancel_tQuiet hquiet, beforeCancel_tQuiet (hphase.trans hquiet)]
    subst ht
    exact sameButWorking_raiseError _ rfl
  rw [beforeCancel_other henter hquiet, beforeCancel_other (hphase ▸ henter) (hphase ▸ hquiet)]
  exact sameButWorking_raiseError _ ht

theorem sameButWorking_pendingRead (h : SameButWorking s t) : pendingRead t = pendingRead s := by
  obtain ⟨w, rfl, hw⟩ := h
  cases hp : s.phase <;> rw [hp] at hw <;> simp only [pendingRead, hp]
  case tRead => exact congrArg some hw
  case epReadback => exact congrArg (fun x => some x.toNat) hw.2
  case epRxPayload => exact congrArg (fun x => some (headerDataLen x)) hw

theorem sameButWorking_lockstep : Lockstep SameButWorking where
  phase := by rintro s _ ⟨w, rfl, -⟩; rfl
  rxq := by rintro s _ ⟨w, rfl, -⟩; rfl
  sched := by rintro s _ x ⟨w, rfl, hw⟩; exact ⟨w, rfl, hw⟩
  rx := by rintro s _ b ⟨w, rfl, hw⟩; exact ⟨w, rfl, hw⟩
  busy := by rintro s _ v ⟨w, rfl, hw⟩; exact ⟨w, rfl, hw⟩
  pending h := sameButWorking_pendingRead h
  deadline := by rintro s _ ⟨w, rfl, -⟩; rfl
  read {s t n} hn h := by
    obtain ⟨w, rfl, hw⟩ := h
    exact sameButWorking_afterRead (s := { s with rxq := s.rxq.drop n }) hn rfl hw _
  edge {s t} hn h := by
    obtain ⟨w, ht, hw⟩ := h
    exact sameButWorking_edgeTurn hn ht hw
  cancel {s t} _ h := by
    obtain ⟨w, ht, -⟩ := h
    exact sameButWorking_cancel ht

/-- Issuing writes every register that the operation reads. -/
theorem sameButWorking_opened {i : Instr} (hm : mayHold i = true) (s : State) (w : Working) :
    SameButWorking (opened i s) (opened i { s with w := w }) := by
  cases i with
  | sbepSend => exact ⟨_, rfl, rfl, rfl⟩
  | read | sb9600Send => exact ⟨_, rfl, rfl⟩
  | waitForQuiet | sbepEnter | sbepLeave | sbepReceive | boot => exact ⟨_, rfl, trivial⟩
  | _ => cases hm

end Working

/-- A command that cannot hold reads no working register. -/
theorem immediate_working (i : Instr) (s : State) (w : Working) :
    ∃ w', immediate i { s with w := w } = { immediate i s with w := w' } := by cases i <;> exact ⟨_, rfl⟩

/-- Settles O37: issuing writes what the operation reads, and the two runs stay the same but for the rest. -/
theorem oldWorkingRegistersAreNeverRead : Obligations.OldWorkingRegistersAreNeverRead := by
  intro i s t w hidle he
  have hidle' : ({ s with w := w } : State).phase = .idle := hidle
  cases hport : i.port with
  | wire f =>
    rw [exec_wire hport, deliver_idle hidle] at he
    cases he
    exact ⟨w, by rw [exec_wire hport, deliver_idle hidle']⟩
  | command =>
    cases hwf : i.wellFormed with
    | false =>
      rw [exec_command hport, command_illFormed hwf] at he
      cases he
      exact ⟨w, by rw [exec_command hport, command_illFormed hwf]⟩
    | true =>
      cases hm : mayHold i with
      | false =>
        rw [exec_immediate hport hwf hidle hm] at he
        cases he
        obtain ⟨w', himm⟩ := immediate_working i s w
        exact ⟨w', by rw [exec_immediate hport hwf hidle' hm, himm]⟩
      | true =>
        rw [exec_run hwf hidle hm] at he
        cases he
        obtain ⟨w', hrun, -⟩ := sameButWorking_lockstep.run s.sched (sameButWorking_opened hm s w)
        exact ⟨w', by rw [exec_run hwf hidle' hm, ← hrun]⟩

section PeerLine

/-! Who moves `BUSY_IN` (R32). -/

/-- A burst is read as a wire format. -/
theorem port_of_decode {f : Format} {bs rest : Bytes} {i : Instr} (h : decode (.wire f) bs = .ok i rest) :
    i.port = .wire f := by
  cases f with
  | sb9600 =>
    simp only [decode, decodeSb9600] at h
    split at h <;> cases h
    rfl
  | sbep =>
    simp only [decode, decodeSbepHeader] at h
    repeat' split at h
    all_goals cases h <;> rfl
  | ack | finalAck =>
    simp only [decode, decodeAck] at h
    repeat' split at h
    all_goals cases h <;> rfl
  | trigger =>
    simp only [decode, decodeTrigger] at h
    repeat' split at h
    all_goals cases h <;> rfl
  | block | ready =>
    simp only [decode, decodeEight] at h
    split at h <;> cases h
    rfl

theorem port_of_decodeLine {e : Option Format} {bs : Bytes} {i : Instr} (h : decodeLine e bs = some i) :
    ∃ f, i.port = .wire f := by
  obtain ⟨f, -, hf⟩ := List.exists_of_findSome?_eq_some h
  unfold decodeWhole at hf
  split at hf <;> cases hf
  next hd => exact ⟨f, port_of_decode hd⟩

variable {s t : State}

theorem step_line_none {bs : Bytes} {ts : List Turn} (h : s.sched = .line bs :: ts)
    (hd : decodeLine (expectedFormat s.phase) bs = none) : step s = .next (deliver bs { s with sched := ts }) := by
  simp [step, fetch, h, hd]

theorem engineTurn_busyIn (s : State) : (engineTurn s).busyIn = s.busyIn := by
  obtain ⟨-, -, -, -, hbusy, -⟩ := engineTurn_same s
  exact hbusy

theorem timeoutTurn_busyIn (s : State) : (timeoutTurn s).busyIn = s.busyIn := by
  obtain ⟨n, -, -, he⟩ | he := timeoutTurn_cases s <;> rw [he]
  obtain ⟨-, -, -, -, hbusy, -⟩ := completeRead_same n s
  exact hbusy

theorem deliver_busyIn (bs : Bytes) (s : State) : (deliver bs s).busyIn = s.busyIn :=
  deliver_keeps (P := fun t => t.busyIn = s.busyIn) (fun _ _ h => h) (fun t h => (engineTurn_busyIn t).trans h) bs s rfl

/-- An operation without a turn left settles by engine turns. -/
theorem run_nil_busyIn (s : State) : (run [] s).busyIn = s.busyIn :=
  settle_keeps (P := fun t => t.busyIn = s.busyIn) (fun t h => (engineTurn_busyIn t).trans h) _ s rfl

theorem exec_wire_busyIn {i : Instr} {f : Format} (hport : i.port = .wire f) (he : exec i s = .next t) :
    t.busyIn = s.busyIn := by
  rw [exec_wire hport] at he
  cases he
  exact deliver_busyIn ..

/-- An instruction, where no turns follow. -/
theorem exec_busyIn {i : Instr} (h : s.phase ≠ .idle ∨ s.sched = []) (he : exec i s = .next t) :
    t.busyIn = s.busyIn := by
  obtain rfl | ⟨-, -, -, -, rfl⟩ | ⟨hidle, -, hm, rfl⟩ | ⟨f, hport, -⟩ := exec_cases he
  · rfl
  · cases i <;> rfl
  · obtain h | h := h
    · exact absurd hidle h
    · rw [h, run_nil_busyIn]
      cases i <;> rfl
  · exact exec_wire_busyIn hport he

end PeerLine

/-- Settles O59: each turn by itself. -/
theorem environmentStepsWriteOnlyTheirLine : Obligations.EnvironmentStepsWriteOnlyTheirLine := by
  refine ⟨fun s v ts hs => step_env hs, fun s b ts hs => step_env hs, fun s ts hs hn => ?timeout,
    fun s t he hbusy hhost => ?others, fun i f s t hport he => exec_wire_busyIn hport he⟩
  case timeout =>
    rw [step_env hs, envTurn]
    cases h : pendingRead s with
    | none => rw [timeoutTurn_none (by exact h)]
    | some n => rw [timeoutTurn_full (by exact h) (by exact hn n h)]
  case others =>
    cases hs : s.sched with
    | nil =>
      rw [step_none hs] at he
      cases he
      exact engineTurn_busyIn s
    | cons x ts =>
      cases x with
      | engine =>
        rw [step_engine hs] at he
        cases he
        exact engineTurn_busyIn _
      | env e =>
        rw [step_env hs] at he
        cases he
        cases e with
        | rx b => rfl
        | busy v => exact absurd hs (hbusy v ts)
        | timeout => exact timeoutTurn_busyIn _
      | deadline =>
        rw [step_deadline hs] at he
        cases he
        obtain ⟨-, -, -, -, h, -⟩ := deadlineTurn_same { s with sched := ts }
        exact h
      | reset =>
        rw [step_reset hs] at he
        cases he
        rfl
      | load image =>
        rw [step_load hs] at he
        split at he <;> cases he
        unfold loadImage
        split <;> rfl
      | unload =>
        rw [step_unload hs] at he
        split at he <;> cases he
        rfl
      | host bs =>
        obtain ⟨i, hi⟩ | hi := step_host hs
        · exact exec_busyIn (s := { s with sched := ts }) (hhost bs ts hs) (hi ▸ he)
        · rw [hi] at he
          cases he
          rfl
      | line bs =>
        cases hd : decodeLine (expectedFormat s.phase) bs with
        | some i =>
          obtain ⟨f, hport⟩ := port_of_decodeLine hd
          rw [step_line_some hs hd] at he
          exact exec_wire_busyIn (s := { s with sched := ts }) hport he
        | none =>
          rw [step_line_none hs hd] at he
          cases he
          exact deliver_busyIn ..

end Sys2Proof.Proofs

/-! PROOFS. `SBEP_RECEIVE` and `sbep_parse` (43_sbep.md R203, R210): what the operation makes of the bytes it reads is
what the parser says of them. -/

namespace Sys2Proof.Proofs

open Sys2Proof.Machine Sys2Proof.Safety

/-! The parser on the bytes that the operation has read so far. -/

/-- While header bytes are missing, the parser finds the bytes short (R203). -/
theorem sbepParse_of_header {p : Phase} {b : Bytes} (hp : inHeader p = true) (hf : HeaderFits p b) :
    sbepParse b = .short := by
  obtain rfl | hlt := headerFits_length_lt hp hf
  · exact sbepParse_nil
  · obtain _ | ⟨h, b⟩ := b
    · exact sbepParse_nil
    · exact sbepParse_headerCut hlt

/-- A header by itself is no frame (R203). -/
theorem sbepParse_of_receive {p : Phase} {b : Bytes} (hp : inReceive p = true) (hf : HeaderFits p b)
    (opcode : Byte) (data rest : Bytes) : sbepParse b ≠ .frame opcode data rest := by
  obtain hh | rfl := inReceive_cases hp
  · rw [sbepParse_of_header hh hf]
    nofun
  · have hf : b.length = headerLen (b.getD 0 0) := hf
    intro h
    rw [← List.append_nil b, sbepParse_header hf, parseBody] at h
    split at h
    · cases h
    · next hlen =>
      have hzero : headerDataLen b = 0 := Nat.le_zero.mp (Nat.le_of_not_lt hlen)
      rw [frameVerdict, if_pos hzero] at h
      cases h

theorem headerSoFar_of_fits {s : State} (hf : HeaderFits s.phase s.w.rxbuf) : headerSoFar s = s.w.rxbuf := by
  unfold headerSoFar
  split
  · next hp =>
    rw [hp] at hf
    exact hf.symm
  · rfl

section Reads

/-! The reads of `SBEP_RECEIVE` with their exact next states (R203, R210, R211). -/

variable {s : State}

/-- One more header byte. -/
theorem receive_byte (hp : inHeader s.phase = true) (hf : HeaderFits s.phase s.w.rxbuf) (b : Byte) :
    ∃ p, inReceive p = true ∧ HeaderFits p (s.w.rxbuf ++ [b]) ∧ afterRead [b] s = { s with
      phase := p, w := { s.w with rxbuf := s.w.rxbuf ++ [b], rxlen := BitVec.ofNat 9 (s.w.rxbuf ++ [b]).length }
      trace := s.trace ++ [.rx [b]] } := by
  refine ⟨_, inReceive_afterByte .., headerFits_afterByte hp hf b, ?_⟩
  rw [afterRead_header_cons hp, headerSoFar_of_fits hf]
  rfl

/-- The end of an operation that failed after the read `r`. -/
theorem receive_fails (hp : inReceive s.phase = true) (r : Bytes) {u : State} (hphase : u.phase = s.phase)
    (hu : ∃ b l, u = { emit (.rx r) s with w := { s.w with rxbuf := b, rxlen := l } }) :
    ∃ o d dl c rb rl n, raiseError .checksumFailure u = { s with
      phase := .idle, status := .checksumFailure, result := .none, session := none
      w := { s.w with opcode := o, data := d, dlen := dl, acc := c, rxbuf := rb, rxlen := rl }
      trace := s.trace ++ [.rx r, .ended .checksumFailure], free := n } := by
  have hw := workingOf_family (familyOf_of_inReceive hp)
  rw [raiseError_eq (lost := [.opcode, .data, .acc, .rxbuf]) _ (by rw [hphase]; exact hw)]
  obtain ⟨b, l, rfl⟩ := hu
  obtain ⟨o, d, dl, c, rb, rl, n, he⟩ := endOp_sbepReceive .checksumFailure .none
    { emit (.rx r) s with w := { s.w with rxbuf := b, rxlen := l } }
  exact ⟨o, d, dl, c, rb, rl, n, by rw [he]; simp [emit]⟩

/-- A read that is cut short. -/
theorem receive_short (hp : inReceive s.phase = true) {n : Nat} (hn : pendingRead s = some n) {r : Bytes}
    (hr : r.length < n) : ∃ o d dl c rb rl k, afterRead r s = { s with
      phase := .idle, status := .checksumFailure, result := .none, session := none
      w := { s.w with opcode := o, data := d, dlen := dl, acc := c, rxbuf := rb, rxlen := rl }
      trace := s.trace ++ [.rx r, .ended .checksumFailure], free := k } := by
  have hraise : afterRead r s = raiseError .checksumFailure (emit (.rx r) s) := by
    obtain hh | hpay := inReceive_cases hp
    · rw [pendingRead_header hh] at hn
      cases hn
      rw [List.length_eq_zero_iff.mp (Nat.lt_one_iff.mp hr), afterRead_header_nil hh]
    · simp only [pendingRead, hpay, Option.some.injEq] at hn
      rw [afterRead_epRxPayload hpay, if_pos (by omega)]
  rw [hraise]
  exact receive_fails hp r rfl ⟨_, _, rfl⟩

/-- A whole payload that the sum test or the length refuses. -/
theorem receive_rejects (hp : s.phase = .epRxPayload) {r : Bytes} (hr : headerDataLen s.w.rxbuf ≤ r.length)
    (hv : frameVerdict s.w.rxbuf r = none) : ∃ o d dl c rb rl k, afterRead r s = { s with
      phase := .idle, status := .checksumFailure, result := .none, session := none
      w := { s.w with opcode := o, data := d, dlen := dl, acc := c, rxbuf := rb, rxlen := rl }
      trace := s.trace ++ [.rx r, .ended .checksumFailure], free := k } := by
  rw [afterRead_epRxPayload hp, if_neg (by omega), receiveVerdict_none (by exact hv)]
  exact receive_fails (by rw [hp]; rfl) r rfl ⟨_, _, rfl⟩

/-- A whole payload that makes a frame. -/
theorem receive_accepts (hp : s.phase = .epRxPayload) {r data : Bytes} {opcode : Byte}
    (hr : headerDataLen s.w.rxbuf ≤ r.length) (hv : frameVerdict s.w.rxbuf r = some (opcode, data)) :
    ∃ c rb k, rb.length = (s.w.rxbuf ++ r).length ∧ afterRead r s = { s with
      phase := .idle, status := .ok, result := .none, session := none
      w := { s.w with opcode := opcode, data := data, dlen := BitVec.ofNat 8 data.length, acc := c
                      rxbuf := rb, rxlen := BitVec.ofNat 9 (s.w.rxbuf ++ r).length }
      trace := s.trace ++ [.rx r, .ended .ok], free := k } := by
  rw [afterRead_epRxPayload hp, if_neg (by omega), receiveVerdict_some (by exact hv)]
  refine ⟨Config.freeByte s.free .acc 0, freeBytes s.free .rxbuf (s.w.rxbuf ++ r).length, s.free + 1,
    freeBytes_length .., ?_⟩
  simp [endOp_eq, scramble, loseRxbuf, setMessage, setRxbuf, emit]

end Reads

section Outcomes

/-! Every outcome of `SBEP_RECEIVE`, issued in `s`; the bytes read are those of `reads`. -/

/-- Bytes that are no frame (R203). -/
def NoFrame (b : Bytes) : Prop := ∀ (opcode : Byte) (data rest : Bytes), sbepParse b ≠ .frame opcode data rest

/-- What the operation can have reached. -/
inductive ReceiveReaches (s t : State) : Prop
  | reading (hp : inReceive t.phase = true) (hfits : HeaderFits t.phase t.w.rxbuf) (hstatus : t.status = s.status)
    (reads : List Bytes) (hreads : t.w.rxbuf = reads.flatten) (htrace : t.trace = s.trace ++ reads.map Event.rx)
  | accepted (hp : t.phase = .idle) (hstatus : t.status = .ok) (reads : List Bytes)
    (htrace : t.trace = s.trace ++ reads.map Event.rx ++ [Event.ended .ok])
    (hparse : sbepParse reads.flatten = .frame t.w.opcode t.w.data []) (hdlen : t.w.dlen.toNat = t.w.data.length)
    (hrxlen : t.w.rxlen.toNat = reads.flatten.length) (hrxbuf : t.w.rxbuf.length = reads.flatten.length)
  | rejected (hp : t.phase = .idle) (hstatus : t.status = .checksumFailure) (reads : List Bytes)
    (htrace : t.trace = s.trace ++ reads.map Event.rx ++ [Event.ended .checksumFailure])
    (hparse : NoFrame reads.flatten)

variable {s t : State}

/-- A read that ends without a frame. -/
theorem receiveReaches_fails {r : Bytes} {reads : List Bytes} (hreads : t.w.rxbuf = reads.flatten)
    (htrace : t.trace = s.trace ++ reads.map Event.rx) (hparse : NoFrame (t.w.rxbuf ++ r))
    (he : ∃ o d dl c rb rl k, afterRead r t = { t with
      phase := .idle, status := .checksumFailure, result := .none, session := none
      w := { t.w with opcode := o, data := d, dlen := dl, acc := c, rxbuf := rb, rxlen := rl }
      trace := t.trace ++ [.rx r, .ended .checksumFailure], free := k }) : ReceiveReaches s (afterRead r t) := by
  obtain ⟨o, d, dl, c, rb, rl, k, he⟩ := he
  rw [he]
  exact .rejected rfl rfl (reads ++ [r]) (by simp [htrace]) (by simpa [hreads] using hparse)

/-- The read of the payload. -/
theorem receiveReaches_payload {r : Bytes} {reads : List Bytes} (hp : t.phase = .epRxPayload)
    (hfits : t.w.rxbuf.length = headerLen (t.w.rxbuf.getD 0 0)) (hr : r.length ≤ headerDataLen t.w.rxbuf)
    (hreads : t.w.rxbuf = reads.flatten) (htrace : t.trace = s.trace ++ reads.map Event.rx) :
    ReceiveReaches s (afterRead r t) := by
  have hin : inReceive t.phase = true := by rw [hp]; rfl
  obtain hlt | heq := hr.lt_or_eq
  · refine receiveReaches_fails hreads htrace (fun opcode data rest => ?_)
      (receive_short hin (n := headerDataLen t.w.rxbuf) (by simp [pendingRead, hp]) hlt)
    rw [sbepParse_payloadCut hfits hlt]
    nofun
  cases hv : frameVerdict t.w.rxbuf r with
  | none =>
    refine receiveReaches_fails hreads htrace (fun opcode data rest => ?_) (receive_rejects hp heq.ge hv)
    rw [← List.append_nil r, sbepParse_bad hfits heq hv]
    nofun
  | some v =>
    obtain ⟨opcode, data⟩ := v
    obtain ⟨c, rb, k, hlen, he⟩ := receive_accepts hp heq.ge hv
    have hparse := sbepParse_frame (rest := []) hfits heq hv
    obtain ⟨-, -, hdata⟩ := frameVerdict_eq_some hv
    have hmax := headerDataLen_le t.w.rxbuf
    have hheader := headerLen_le (t.w.rxbuf.getD 0 0)
    have hbytes : (t.w.rxbuf ++ r).length < 512 := by rw [List.length_append]; omega
    have hdatalen : data.length < 256 := by rw [hdata, List.length_take]; omega
    have hflat : (reads ++ [r]).flatten = t.w.rxbuf ++ r := by simp [hreads]
    rw [he]
    refine .accepted rfl rfl (reads ++ [r]) (by simp [htrace]) ?_ ?_ ?_ ?_
    · rw [hflat]
      simpa using hparse
    · exact Nat.mod_eq_of_lt hdatalen
    · rw [hflat]
      exact Nat.mod_eq_of_lt hbytes
    · rw [hflat]
      exact hlen

theorem receiveReaches_outcomes (s : State) : Outcomes (ReceiveReaches s) where
  congr t q v x h := by
    cases h with
    | reading hp hfits hstatus reads hreads htrace => exact .reading hp hfits hstatus reads hreads htrace
    | accepted hp hstatus reads htrace hparse hdlen hrxlen hrxbuf =>
      exact .accepted hp hstatus reads htrace hparse hdlen hrxlen hrxbuf
    | rejected hp hstatus reads htrace hparse => exact .rejected hp hstatus reads htrace hparse
  read t r n hn hr h := by
    cases h with
    | reading hp hfits hstatus reads hreads htrace =>
      obtain hh | hpay := inReceive_cases hp
      · have hone := pendingRead_header hh
        obtain rfl : 1 = n := Option.some.inj (hone.symm.trans hn)
        obtain _ | ⟨b, _ | ⟨c, r⟩⟩ := r
        · refine receiveReaches_fails hreads htrace (fun opcode data rest => ?_) (receive_short hp hn (by simp))
          rw [List.append_nil]
          exact sbepParse_of_receive hp hfits opcode data rest
        · obtain ⟨p, hp', hfits', he⟩ := receive_byte hh hfits b
          rw [he]
          exact .reading hp' hfits' hstatus (reads ++ [[b]]) (by simp [hreads]) (by simp [htrace])
        · simp at hr
      · simp only [pendingRead, hpay, Option.some.injEq] at hn
        rw [hpay] at hfits
        exact receiveReaches_payload hpay hfits (hn ▸ hr) hreads htrace
    | accepted hp | rejected hp => simp [pendingRead, hp] at hn
  edge t hn h := by
    cases h with
    | reading hp =>
      obtain hh | hpay := inReceive_cases hp
      · rw [pendingRead_header hh] at hn
        cases hn
      · simp [pendingRead, hpay] at hn
    | accepted hp hstatus reads htrace hparse hdlen hrxlen hrxbuf =>
      rw [engineTurn_idle hp]
      exact .accepted hp hstatus reads htrace hparse hdlen hrxlen hrxbuf
    | rejected hp hstatus reads htrace hparse =>
      rw [engineTurn_idle hp]
      exact .rejected hp hstatus reads htrace hparse

theorem receiveReaches_exec (hidle : s.phase = .idle) (hd : s.cfg.deadline = none)
    (he : exec .sbepReceive s = .next t) : ReceiveReaches s t :=
  (receiveReaches_outcomes s).exec (i := .sbepReceive) rfl rfl hidle hd
    (.reading rfl rfl rfl [] rfl (List.append_nil _).symm) he

end Outcomes

section Queued

/-! `SBEP_RECEIVE` on the bytes queued when it was issued in `s`, with no turn but the engine's. -/

/-- What it has reached: every byte of the queue is read or still queued. -/
inductive ReceivesQueued (s t : State) : Prop
  | reading (p : Phase) (b q : Bytes) (l : BitVec 9) (reads : List Bytes) (hp : inReceive p = true)
    (hfits : HeaderFits p b) (hreads : reads.flatten = b) (hq : b ++ q = s.rxq)
    (ht : t = { s with
      phase := p, rxq := q, w := { s.w with rxbuf := b, rxlen := l }, trace := s.trace ++ reads.map Event.rx })
  | accepted (opcode : Byte) (data rest : Bytes) (hparse : sbepParse s.rxq = .frame opcode data rest)
    (frame rb : Bytes) (reads : List Bytes) (c : Byte) (n : Nat) (hframe : frame ++ rest = s.rxq)
    (hreads : reads.flatten = frame) (hlen : rb.length = frame.length)
    (ht : t = { s with
      phase := .idle, status := .ok, result := .none, session := none, rxq := rest
      w := { s.w with opcode := opcode, data := data, dlen := BitVec.ofNat 8 data.length, acc := c
                      rxbuf := rb, rxlen := BitVec.ofNat 9 frame.length }
      trace := s.trace ++ reads.map Event.rx ++ [Event.ended .ok], free := n })
  | rejected (rest : Bytes) (hparse : sbepParse s.rxq = .bad rest) (frame : Bytes) (reads : List Bytes) (o c : Byte)
    (d rb : Bytes) (dl : BitVec 8) (rl : BitVec 9) (n : Nat) (hframe : frame ++ rest = s.rxq)
    (hreads : reads.flatten = frame)
    (ht : t = { s with
      phase := .idle, status := .checksumFailure, result := .none, session := none, rxq := rest
      w := { s.w with opcode := o, data := d, dlen := dl, acc := c, rxbuf := rb, rxlen := rl }
      trace := s.trace ++ reads.map Event.rx ++ [Event.ended .checksumFailure], free := n })

variable {s t : State}

/-- The read of a payload that is queued in full. -/
theorem receivesQueued_payload {b q : Bytes} {l : BitVec 9} {reads : List Bytes}
    (hfits : b.length = headerLen (b.getD 0 0)) (hlen : headerDataLen b ≤ q.length) (hreads : reads.flatten = b)
    (hq : b ++ q = s.rxq) (ht : t = { s with
      phase := .epRxPayload, rxq := q, w := { s.w with rxbuf := b, rxlen := l }
      trace := s.trace ++ reads.map Event.rx }) : ReceivesQueued s (engineTurn t) := by
  obtain ⟨r, rest, rfl, hr⟩ : ∃ r rest, q = r ++ rest ∧ r.length = headerDataLen b :=
    ⟨_, _, (List.take_append_drop _ q).symm, List.length_take_of_le hlen⟩
  have hread : engineTurn t = afterRead r { t with rxq := rest } :=
    engineTurn_takes (by rw [ht]; rfl) (by rw [ht]) hr
  have hbytes : (reads ++ [r]).flatten = b ++ r := by simp [hreads]
  rw [hread]
  cases hv : frameVerdict b r with
  | none =>
    obtain ⟨o, d, dl, c, rb, rl, n, he⟩ := receive_rejects (s := { t with rxq := rest }) (by rw [ht])
      (r := r) (by rw [ht]; exact hr.ge) (by rw [ht]; exact hv)
    refine .rejected rest (hq ▸ sbepParse_bad hfits hr hv) (b ++ r) (reads ++ [r]) o c d rb dl rl n
      (by rw [← hq, List.append_assoc]) hbytes ?_
    rw [he, ht]
    simp
  | some v =>
    obtain ⟨opcode, data⟩ := v
    obtain ⟨c, rb, n, hrb, he⟩ := receive_accepts (s := { t with rxq := rest }) (by rw [ht])
      (r := r) (by rw [ht]; exact hr.ge) (by rw [ht]; exact hv)
    refine .accepted opcode data rest (hq ▸ sbepParse_frame hfits hr hv) (b ++ r) rb (reads ++ [r]) c n
      (by rw [← hq, List.append_assoc]) hbytes (by rw [hrb, ht]) ?_
    rw [he, ht]
    simp

/-- The engine takes the next read, or waits for it. -/
theorem receivesQueued_engine (h : ReceivesQueued s t) : ReceivesQueued s (engineTurn t) := by
  have hstays := h
  cases h with
  | accepted _ _ _ _ _ _ _ _ _ _ _ _ ht => rw [engineTurn_idle (by rw [ht])]; exact hstays
  | rejected _ _ _ _ _ _ _ _ _ _ _ _ _ ht => rw [engineTurn_idle (by rw [ht])]; exact hstays
  | reading p b q l reads hp hfits hreads hq ht =>
    obtain hh | rfl := inReceive_cases hp
    · have hn : pendingRead t = some 1 := pendingRead_header (by rw [ht]; exact hh)
      obtain _ | ⟨x, q⟩ := q
      · rw [engineTurn_short hn (by rw [ht]; simp)]
        exact hstays
      · obtain ⟨p', hp', hfits', he⟩ := receive_byte (s := { t with rxq := q }) (by rw [ht]; exact hh)
          (by rw [ht]; exact hfits) x
        have hread : engineTurn t = afterRead [x] { t with rxq := q } := engineTurn_takes hn (by rw [ht]; rfl) rfl
        rw [ht] at hfits'
        refine .reading p' (b ++ [x]) q (BitVec.ofNat 9 (b ++ [x]).length) (reads ++ [[x]]) hp' hfits'
          (by simp [hreads]) (by simp [← hq]) ?_
        rw [hread, he, ht]
        simp
    · by_cases hlen : headerDataLen b ≤ q.length
      · exact receivesQueued_payload hfits hlen hreads hq ht
      · rw [engineTurn_short (n := headerDataLen b) (by rw [ht]; rfl) (by rw [ht]; exact Nat.lt_of_not_le hlen)]
        exact hstays

/-- Where the operation waits, the queue ended inside the frame. -/
theorem sbepParse_of_waits {p : Phase} {b q : Bytes} (hp : inReceive p = true) (hfits : HeaderFits p b)
    (ht : t.phase = p ∧ t.rxq = q ∧ t.w.rxbuf = b) (hw : Waits t) : sbepParse (b ++ q) = .short := by
  obtain ⟨rfl, rfl, rfl⟩ := ht
  obtain hidle | ⟨n, hn, hq⟩ | ⟨hbus | hbus | hbus, -⟩ := hw
  · rw [hidle] at hp
    cases hp
  · obtain hh | hpay := inReceive_cases hp
    · have hone := waitsFor_of_pendingRead (pendingRead_header hh)
      obtain rfl : 1 = n := Option.some.inj (hone.symm.trans hn)
      rw [List.length_eq_zero_iff.mp (Nat.lt_one_iff.mp hq), List.append_nil]
      exact sbepParse_of_header hh hfits
    · have hpay' := waitsFor_of_pendingRead (s := t) (n := headerDataLen t.w.rxbuf) (by simp [pendingRead, hpay])
      obtain rfl : headerDataLen t.w.rxbuf = n := Option.some.inj (hpay'.symm.trans hn)
      rw [hpay] at hfits
      exact sbepParse_payloadCut hfits hq
  all_goals
    rw [hbus] at hp
    cases hp

theorem receivesQueued_sched (h : ReceivesQueued s t) : t.sched = s.sched := by
  cases h with
  | reading _ _ _ _ _ _ _ _ _ ht => rw [ht]
  | accepted _ _ _ _ _ _ _ _ _ _ _ _ ht => rw [ht]
  | rejected _ _ _ _ _ _ _ _ _ _ _ _ _ ht => rw [ht]

theorem withSched_self {ts : List Turn} (h : t.sched = ts) : { t with sched := ts } = t := by
  subst h
  rfl

/-- The whole operation: it has settled, and where it has not ended it waits. -/
theorem receivesQueued_exec (hidle : s.phase = .idle) (hs : s.sched = []) :
    ∃ t, exec .sbepReceive s = .next t ∧ ReceivesQueued s t ∧ Waits t := by
  refine ⟨_, exec_along rfl hidle rfl hs, ?_, run_waits [] _ rfl⟩
  have hstart : ReceivesQueued s (opened .sbepReceive s) :=
    .reading .epRxHdr [] s.rxq 0#9 [] rfl rfl rfl rfl (by simp [setRxbuf])
  have hsettled : ReceivesQueued s (settle (settleTurns (opened .sbepReceive s)) (opened .sbepReceive s)) :=
    settle_keeps (P := ReceivesQueued s) (fun _ => receivesQueued_engine) _ _ hstart
  rw [run_nil, withSched_self ((receivesQueued_sched hsettled).trans hs)]
  exact hsettled

end Queued

/-- Settles O30: what the operation has read and what is still queued make up the bytes that the parser sees. -/
theorem sbepReceiveAgreesWithTheParser : Obligations.SbepReceiveAgreesWithTheParser := by
  refine ⟨fun s hidle hs => ?queued, fun s t hidle hd he => ?outcomes⟩
  case queued =>
    obtain ⟨t, he, hreaches, hw⟩ := receivesQueued_exec hidle hs
    cases hreaches with
    | reading p b q l reads hp hfits hreads hq ht =>
      have hshort : sbepParse s.rxq = .short := by
        rw [← hq]
        exact sbepParse_of_waits hp hfits (by rw [ht]; exact ⟨rfl, rfl, rfl⟩) hw
      rw [hshort]
      refine ⟨fun _ _ _ h => (nomatch h), fun _ h => (nomatch h), fun _ => ⟨t, he, ?_, ?_, ?_, holds_of_waits hw⟩⟩
      · rw [ht]
        exact hp
      · rw [ht]
      · rw [ht]
        exact hq
    | accepted opcode data rest hparse frame rb reads c n hframe hreads hlen ht =>
      rw [hparse]
      refine ⟨fun _ _ _ h => ?_, fun _ h => (nomatch h), fun h => (nomatch h)⟩
      cases h
      refine ⟨frame, rb, reads, c, n, hframe, hreads, hlen, ?_⟩
      rw [he, ht, ← hidle]
    | rejected rest hparse frame reads o c d rb dl rl n hframe hreads ht =>
      rw [hparse]
      refine ⟨fun _ _ _ h => (nomatch h), fun _ h => ?_, fun h => (nomatch h)⟩
      cases h
      refine ⟨frame, reads, o, c, d, rb, dl, rl, n, hframe, hreads, ?_⟩
      rw [he, ht, ← hidle]
  case outcomes =>
    obtain ⟨hbusy, hmode, -, hwire, -⟩ := frame_sbepReceive hidle he
    refine ⟨hbusy, hmode, hwire, ?_⟩
    cases receiveReaches_exec hidle hd he with
    | reading hp hfits hstatus reads hreads htrace =>
      exact ⟨reads, .inr (.inr ⟨hp, hstatus, htrace, hreads, hreads ▸ sbepParse_of_receive hp hfits⟩)⟩
    | accepted hp hstatus reads htrace hparse hdlen hrxlen hrxbuf =>
      exact ⟨reads, .inl ⟨hp, hstatus, htrace, hparse, hdlen, hrxlen, hrxbuf⟩⟩
    | rejected hp hstatus reads htrace hparse => exact ⟨reads, .inr (.inl ⟨hp, hstatus, htrace, hparse⟩)⟩

end Sys2Proof.Proofs

/-! PROOFS. What `BOOT` can have reached, however the agents take turns (44_bootstrap.md R230 to R257), and the statuses
of every command (60_exceptions.md R272). -/

namespace Sys2Proof.Proofs

open Sys2Proof.Machine Sys2Proof.Safety

/-- The blocks of an image, one by one (R250). -/
theorem blocksFrom_getElem? (image : Bytes) (n c : Nat) {k : Nat} (h : k < n) :
    (blocksFrom image n c)[k]? = some (blockAt image (c + 8 * k)) := by
  induction n generalizing c k with
  | zero => omega
  | succ n ih =>
    obtain _ | k := k
    · rfl
    · rw [blocksFrom, List.getElem?_cons_succ, ih (c + 8) (by omega)]
      congr 2
      omega

section Boot

/-! `BOOT`, issued in `s`. -/

/-- The image that preflight latches. -/
def imageOf (s : State) : Bytes := memRead s.img s.imgLen.toNat 0 s.imgLen.toNat

/-- The image passes preflight (R232). -/
def Admissible (s : State) : Prop := s.imgValid = true ∧ s.imgLen.toNat ≤ 4096

/-- The session that a passed preflight leaves (R232). -/
def Latches (s t : State) : Prop :=
  Admissible s ∧ t.session = some { bootImage := some (imageOf s), baud := s.cfg.bootBaud, readySet := s.cfg.readySet }

/-- The bytes on the wire once the trigger and `k` blocks have been written (R244, R252). -/
def wireAfter (s : State) (k : Nat) : Bytes := s.wire ++ [triggerByte] ++ ((blocksOf (imageOf s)).take k).flatten

/-- What `BOOT` can have reached. -/
inductive BootReaches (s t : State) : Prop
  | preflight (hp : t.phase = .btPreflight) (hsame : SameMemory s t) (hbaud : t.baud = s.baud)
    (hcursor : t.cursor = s.cursor) (hwire : t.wire = s.wire)
  | fileError (hp : t.phase = .idle) (hstatus : t.status = .bootloaderFileError)
    (hbad : s.imgValid = false ∨ 4096 < s.imgLen.toNat) (hbaud : t.baud = s.baud) (hcursor : t.cursor = s.cursor)
    (hwire : t.wire = s.wire)
  | ready (hp : t.phase = .btReadyWait) (hlatch : Latches s t) (hwire : t.wire = s.wire)
  | negotiate (hp : t.phase = .btNegotiate) (hlatch : Latches s t) (hbaud : t.baud = s.cfg.bootBaud)
    (hwire : t.wire = wireAfter s 0)
  | send (hp : t.phase = .btBlockSend) (hlatch : Latches s t) (hbaud : t.baud = s.cfg.bootBaud) (k : Nat)
    (hk : k < blockCount s.imgLen.toNat) (hcursor : t.cursor.toNat = 0x80 + 8 * k) (hwire : t.wire = wireAfter s k)
  | echo (hp : t.phase = .btBlockEcho) (hlatch : Latches s t) (hbaud : t.baud = s.cfg.bootBaud) (k : Nat)
    (hk : k < blockCount s.imgLen.toNat) (hcursor : t.cursor.toNat = 0x80 + 8 * k)
    (hwire : t.wire = wireAfter s (k + 1))
  | final (hp : t.phase = .btFinalWait) (hok : Admissible s) (hbaud : t.baud = 115200)
    (hcursor : t.cursor.toNat = 0x80 + 8 * blockCount s.imgLen.toNat)
    (hwire : t.wire = wireAfter s (blockCount s.imgLen.toNat))
  | mismatch (hp : t.phase = .idle) (hstatus : t.status = .echoMismatch) (hok : Admissible s)
    (hbaud : t.baud = s.cfg.bootBaud) (k : Nat) (hk : k < blockCount s.imgLen.toNat)
    (hcursor : t.cursor.toNat = 0x80 + 8 * k) (hwire : t.wire = wireAfter s (k + 1))
  | ended (hp : t.phase = .idle) (hstatus : t.status = .ok ∨ t.status = .bootstrapFailed) (hok : Admissible s)
    (hbaud : t.baud = 115200) (hcursor : t.cursor.toNat = 0x80 + 8 * blockCount s.imgLen.toNat)
    (hwire : t.wire = wireAfter s (blockCount s.imgLen.toNat))

variable {s t : State}

theorem imageOf_length (s : State) : (imageOf s).length = s.imgLen.toNat := by
  rw [imageOf, memRead_length]
  omega

theorem sessionImage_of_latches (h : Latches s t) : sessionImage t = imageOf s := by simp [sessionImage, h.2]

theorem sessionBaud_of_latches (h : Latches s t) : sessionBaud t = s.cfg.bootBaud := by simp [sessionBaud, h.2]

/-- The block loop's test, after `k` verified blocks. -/
theorem bootReaches_nextBlock (hlatch : Latches s t) (hbaud : t.baud = s.cfg.bootBaud) {k : Nat}
    (hk : k ≤ blockCount s.imgLen.toNat) (hcursor : t.cursor.toNat = 0x80 + 8 * k) (hwire : t.wire = wireAfter s k) :
    BootReaches s (nextBlock t) := by
  have hlen : (sessionImage t).length = s.imgLen.toNat := by rw [sessionImage_of_latches hlatch, imageOf_length]
  by_cases hlt : t.cursor.toNat < (sessionImage t).length
  · rw [nextBlock_send hlt]
    exact .send rfl hlatch hbaud k (by rw [hlen] at hlt; simp only [blockCount]; omega) hcursor hwire
  · rw [nextBlock_final (Nat.le_of_not_lt hlt), enterFinal_eq]
    obtain rfl : k = blockCount s.imgLen.toNat := by
      rw [hlen] at hlt
      simp only [blockCount] at hk ⊢
      omega
    exact .final rfl hlatch.1 rfl hcursor hwire

/-- One more block on the wire. -/
theorem wireAfter_succ {k : Nat} (hk : k < blockCount s.imgLen.toNat) :
    wireAfter s (k + 1) = wireAfter s k ++ blockAt (imageOf s) (0x80 + 8 * k) := by
  have hblock := blocksFrom_getElem? (imageOf s) (blockCount (imageOf s).length) 0x80 (k := k)
    (by rwa [imageOf_length])
  rw [wireAfter, blocksOf, List.take_add_one, hblock]
  simp [wireAfter, blocksOf]

theorem wireAfter_all (s : State) : wireAfter s (blockCount s.imgLen.toNat)
    = s.wire ++ [triggerByte] ++ (blocksOf (imageOf s)).flatten := by
  rw [wireAfter, List.take_of_length_le]
  rw [blocksOf, blocksFrom_length, imageOf_length]

theorem bootReaches_outcomes (s : State) : Outcomes (BootReaches s) where
  congr t q v x h := by
    cases h with
    | preflight hp hsame hbaud hcursor hwire => exact .preflight hp hsame hbaud hcursor hwire
    | fileError hp hstatus hbad hbaud hcursor hwire => exact .fileError hp hstatus hbad hbaud hcursor hwire
    | ready hp hlatch hwire => exact .ready hp hlatch hwire
    | negotiate hp hlatch hbaud hwire => exact .negotiate hp hlatch hbaud hwire
    | send hp hlatch hbaud k hk hcursor hwire => exact .send hp hlatch hbaud k hk hcursor hwire
    | echo hp hlatch hbaud k hk hcursor hwire => exact .echo hp hlatch hbaud k hk hcursor hwire
    | final hp hok hbaud hcursor hwire => exact .final hp hok hbaud hcursor hwire
    | mismatch hp hstatus hok hbaud k hk hcursor hwire => exact .mismatch hp hstatus hok hbaud k hk hcursor hwire
    | ended hp hstatus hok hbaud hcursor hwire => exact .ended hp hstatus hok hbaud hcursor hwire
  read t r n hn hr h := by
    cases h with
    | negotiate hp hlatch hbaud hwire =>
      by_cases heq : r = [triggerByte, triggerAckByte]
      · subst heq
        rw [afterRead_triggerResponse hp]
        exact bootReaches_nextBlock hlatch hbaud (Nat.zero_le _) rfl hwire
      · rw [afterRead_notTriggerResponse hp heq]
        exact .negotiate hp hlatch hbaud hwire
    | preflight hp | fileError hp | ready hp | send hp | echo hp | final hp | mismatch hp | ended hp =>
      simp [pendingRead, hp] at hn
  edge t hn h := by
    have hstays := h
    cases h with
    | negotiate hp => simp [pendingRead, hp] at hn
    | preflight hp hsame hbaud hcursor hwire =>
      obtain ⟨himg, hlen, hvalid, hcfg⟩ := hsame
      by_cases hbad : s.imgValid = false ∨ 4096 < s.imgLen.toNat
      · obtain ⟨_, _, _, _, _, he⟩ := preflight_fails hp (by rwa [hvalid, hlen])
        rw [he]
        exact .fileError rfl rfl hbad hbaud hcursor hwire
      · obtain ⟨hv, hl⟩ := not_or.mp hbad
        have hok : Admissible s := ⟨by simpa using hv, Nat.le_of_not_lt hl⟩
        rw [preflight_passes hp (by rw [hvalid]; exact hok.1) (by rw [hlen]; exact hok.2)]
        exact .ready rfl ⟨hok, by rw [himg, hlen, hcfg]; rfl⟩ hwire
    | ready hp hlatch hwire =>
      by_cases hq : 8 ≤ t.rxq.length
      · have hsplit := (List.take_append_drop 8 t.rxq).symm
        have hlen := List.length_take_of_le hq
        by_cases hmem : t.rxq.take 8 ∈ sessionReadySet t
        · rw [ready_member hp hsplit hlen hmem]
          exact .negotiate rfl hlatch (sessionBaud_of_latches hlatch) (by simp [wireAfter, hwire])
        · rw [ready_other hp hsplit hlen hmem]
          exact .ready hp hlatch hwire
      · rw [engineTurn_waits (n := 8) (by simp [waitsFor, hp]) (by omega)]
        exact hstays
    | send hp hlatch hbaud k hk hcursor hwire =>
      rw [block_transmits hp (b := blockAt (imageOf s) (0x80 + 8 * k))
        (by rw [sessionImage_of_latches hlatch, hcursor])]
      exact .echo rfl hlatch hbaud k hk hcursor (by rw [wireAfter_succ hk, hwire])
    | echo hp hlatch hbaud k hk hcursor hwire =>
      by_cases hq : 16 ≤ t.rxq.length
      · have hsplit := (List.take_append_drop 16 t.rxq).symm
        have hlen := List.length_take_of_le hq
        by_cases heq : t.rxq.take 16 = t.w.blk ++ t.w.blk
        · have hmax := hlatch.1.2
          have hnext : (t.cursor + 8#13).toNat = 0x80 + 8 * (k + 1) := by
            simp only [blockCount] at hk
            rw [BitVec.toNat_add, hcursor, BitVec.toNat_ofNat]
            omega
          rw [echo_matches hp hsplit hlen heq]
          exact bootReaches_nextBlock hlatch hbaud hk hnext hwire
        · obtain ⟨_, _, _, _, _, he⟩ := echo_other hp hsplit hlen heq
          rw [he]
          exact .mismatch rfl rfl hlatch.1 hbaud k hk hcursor hwire
      · rw [engineTurn_waits (n := 16) (by simp [waitsFor, hp]) (by omega)]
        exact hstays
    | final hp hok hbaud hcursor hwire =>
      by_cases hq : t.rxq = []
      · rw [engineTurn_waits (n := 1) (by simp [waitsFor, hp]) (by simp [hq])]
        exact hstays
      · obtain ⟨_, _, _, _, _, he⟩ := final_response hp hq
        rw [he]
        exact .ended rfl (by dsimp only; split <;> simp) hok hbaud hcursor hwire
    | fileError hp | mismatch hp | ended hp =>
      rw [engineTurn_idle hp]
      exact hstays

theorem bootReaches_exec (hidle : s.phase = .idle) (hd : s.cfg.deadline = none) (he : exec .boot s = .next t) :
    BootReaches s t :=
  (bootReaches_outcomes s).exec (i := .boot) rfl rfl hidle hd (.preflight rfl ⟨rfl, rfl, rfl, rfl⟩ rfl rfl rfl) he

end Boot

/-- Settles O34: the endings among everything that `BOOT` can have reached. -/
theorem bootEndingsLeaveTheRate : Obligations.BootEndingsLeaveTheRate := by
  rintro s t _ hidle hd he hp rfl
  cases bootReaches_exec hidle hd he with
  | fileError _ hstatus hbad hbaud hcursor hwire => exact .inl ⟨hstatus, hbad, hbaud, hcursor, hwire⟩
  | mismatch _ hstatus hok hbaud k hk hcursor hwire =>
    exact .inr ⟨hok.1, hok.2, .inl ⟨hstatus, hbaud, k, hk, hcursor, hwire⟩⟩
  | ended _ hstatus hok hbaud hcursor hwire =>
    exact .inr ⟨hok.1, hok.2, .inr ⟨hstatus, hbaud, hcursor, hwire.trans (wireAfter_all s)⟩⟩
  | preflight hp' | ready hp' | negotiate hp' | send hp' | echo hp' | final hp' => simp [hp'] at hp

section Statuses

/-! The statuses of the commands whose outcomes are not listed yet (R272). -/

variable {s t : State}

/-- Held in a phase, or ended well. -/
def HeldOrOk (p : Phase) (t : State) : Prop := t.phase = p ∨ t.phase = .idle ∧ t.status = .ok

theorem heldOrOk_tRead : Outcomes (HeldOrOk .tRead) where
  congr _ _ _ _ h := h
  read t r n hn hr h := by
    obtain hp | ⟨hp, -⟩ := h
    · rw [afterRead_tRead hp]
      exact .inr ⟨rfl, rfl⟩
    · simp [pendingRead, hp] at hn
  edge t hn h := by
    obtain hp | ⟨hp, hok⟩ := h
    · simp [pendingRead, hp] at hn
    · rw [engineTurn_idle hp]
      exact .inr ⟨hp, hok⟩

theorem heldOrOk_tQuiet : Outcomes (HeldOrOk .tQuiet) where
  congr _ _ _ _ h := h
  read t r n hn hr h := by
    obtain hp | ⟨hp, -⟩ := h
    · by_cases hnil : r = []
      · rw [hnil, drain_ends hp]
        exact .inr ⟨rfl, rfl⟩
      · rw [drain_goesOn hp hnil]
        exact .inl hp
    · simp [pendingRead, hp] at hn
  edge t hn h := by
    obtain hp | ⟨hp, hok⟩ := h
    · simp [pendingRead, hp] at hn
    · rw [engineTurn_idle hp]
      exact .inr ⟨hp, hok⟩

theorem status_of_heldOrOk {p : Phase} (h : HeldOrOk p t) (hne : p ≠ .idle) (hp : t.phase = .idle) :
    t.status = .ok := by
  obtain hheld | ⟨-, hok⟩ := h
  · exact absurd (hheld.symm.trans hp) hne
  · exact hok

/-- A command that cannot hold ends well. -/
theorem immediate_ok {i : Instr} (hport : i.port = .command) (hm : mayHold i = false) (s : State) :
    (immediate i s).phase = .idle ∧ (immediate i s).status = .ok := by
  cases i with
  | sb9600Crc | sbepChecksum | write | avail | flushIn | flushOut | setBusy | isBusy | setBaud | sb9600Check =>
    exact ⟨rfl, rfl⟩
  | read | waitForQuiet | sb9600Send | sbepEnter | sbepLeave | sbepSend | sbepReceive | boot => cases hm
  | _ => cases hport

theorem statusPossible_of_ok {i : Instr} : statusPossible i .ok = true := by cases i <;> rfl

/-- The status of an ended command that may hold. -/
theorem statusPossible_of_held {i : Instr} (hwf : i.wellFormed = true) (hm : mayHold i = true) (hidle : s.phase = .idle)
    (hd : s.cfg.deadline = none) (he : exec i s = .next t) (hp : t.phase = .idle) :
    statusPossible i t.status = true := by
  cases i with
  | read n =>
    rw [status_of_heldOrOk (heldOrOk_tRead.exec hwf hm hidle hd (.inl rfl) he) nofun hp]
    rfl
  | waitForQuiet d =>
    rw [status_of_heldOrOk (heldOrOk_tQuiet.exec hwf hm hidle hd (.inl rfl) he) nofun hp]
    rfl
  | sb9600Send a b v o =>
    cases sendReaches_exec hidle hd he with
    | accepted _ hstatus | mismatch _ hstatus => rw [hstatus]; rfl
    | before hp' => obtain hp' | hp' := hp' <;> simp [hp'] at hp
    | readback hp' | release hp' => simp [hp'] at hp
  | sbepEnter =>
    cases enterReaches_exec hidle hd he with
    | accepted _ hstatus | refused _ hstatus => rw [hstatus]; rfl
    | waiting hp' => simp [hp'] at hp
  | sbepLeave =>
    cases leaveReaches_exec hidle hd he with
    | ended _ hstatus => rw [hstatus]; rfl
    | waiting hp' => simp [hp'] at hp
  | sbepSend opcode data =>
    cases messageReaches_exec hidle (of_decide_eq_true hwf) hd he with
    | accepted _ hstatus | mismatch _ hstatus | refused _ hstatus => rw [hstatus]; rfl
    | before hp' | readback hp' | answer hp' => simp [hp'] at hp
  | sbepReceive =>
    cases receiveReaches_exec hidle hd he with
    | accepted _ hstatus | rejected _ hstatus => rw [hstatus]; rfl
    | reading hp' => rw [hp] at hp'; cases hp'
  | boot =>
    cases bootReaches_exec hidle hd he with
    | fileError _ hstatus | mismatch _ hstatus => rw [hstatus]; rfl
    | ended _ hstatus => obtain hstatus | hstatus := hstatus <;> rw [hstatus] <;> rfl
    | preflight hp' | ready hp' | negotiate hp' | send hp' | echo hp' | final hp' => simp [hp'] at hp
  | _ => cases hm

end Statuses

/-- Settles O38: the outcomes of the commands that may hold; the others end well at once. -/
theorem statusesEachCommandCanEndWith : Obligations.StatusesEachCommandCanEndWith := by
  intro i s t hport hwf hidle hd he
  cases hm : mayHold i with
  | true => exact ⟨statusPossible_of_held hwf hm hidle hd he, fun h => (nomatch h)⟩
  | false =>
    rw [exec_immediate hport hwf hidle hm] at he
    cases he
    obtain ⟨hp, hok⟩ := immediate_ok hport hm s
    exact ⟨fun _ => hok ▸ statusPossible_of_ok, fun _ => hp⟩

end Sys2Proof.Proofs
